-- ==== Sys2Proof/Word.lean ====
section
/-! DEFINITION. The byte of the ports, and the two small containers the part's records come in: one value for
each of the six wheel ends and one for each of the four partner ports. -/

namespace Sys2Proof

/-- A byte clocked on a port (R148, R159). -/
abbrev Byte := BitVec 8

/-- The six braked wheel ends (section 0-1), in the order the part keeps them (R111). -/
inductive Wheel where
  | l1 | r1 | l2 | r2 | l3 | r3
  deriving DecidableEq, Repr, Inhabited

/-- One value for each wheel end. -/
structure Six (α : Type) where
  l1 : α
  r1 : α
  l2 : α
  r2 : α
  l3 : α
  r3 : α
  deriving DecidableEq, Repr, Inhabited

def Six.get {α : Type} (x : Six α) : Wheel → α
  | .l1 => x.l1 | .r1 => x.r1 | .l2 => x.l2 | .r2 => x.r2 | .l3 => x.l3 | .r3 => x.r3

def Six.set {α : Type} (x : Six α) (w : Wheel) (v : α) : Six α :=
  match w with
  | .l1 => { x with l1 := v } | .r1 => { x with r1 := v } | .l2 => { x with l2 := v }
  | .r2 => { x with r2 := v } | .l3 => { x with l3 := v } | .r3 => { x with r3 := v }

def Six.fill {α : Type} (v : α) : Six α := ⟨v, v, v, v, v, v⟩

def Six.map {α β : Type} (f : α → β) (x : Six α) : Six β :=
  ⟨f x.l1, f x.r1, f x.l2, f x.r2, f x.l3, f x.r3⟩

def Six.zipWith {α β γ : Type} (f : α → β → γ) (x : Six α) (y : Six β) : Six γ :=
  ⟨f x.l1 y.l1, f x.r1 y.r1, f x.l2 y.l2, f x.r2 y.r2, f x.l3 y.l3, f x.r3 y.r3⟩

def Six.toList {α : Type} (x : Six α) : List α := [x.l1, x.r1, x.l2, x.r2, x.l3, x.r3]

/-- The wheel ends in the part's order. -/
def Wheel.all : List Wheel := [.l1, .r1, .l2, .r2, .l3, .r3]

/-- The place of a wheel end in the part's order, from 0. -/
def Wheel.index : Wheel → Nat
  | .l1 => 0 | .r1 => 1 | .l2 => 2 | .r2 => 3 | .l3 => 4 | .r3 => 5

/-- The wheel end at a place of the part's order. -/
def Wheel.ofIndex : Nat → Option Wheel
  | 0 => some .l1 | 1 => some .r1 | 2 => some .l2 | 3 => some .r2 | 4 => some .l3 | 5 => some .r3
  | _ => none

/-- The four partner ports (section 0-2), each named by its partner. -/
inductive Port where
  | traction | pack | genset | brake
  deriving DecidableEq, Repr, Inhabited

def Port.all : List Port := [.traction, .pack, .genset, .brake]

/-- The port numbers of PORT_RESET and TALLY_CLEAR (R160). -/
def Port.ofIndex : Nat → Option Port
  | 0 => some .traction | 1 => some .pack | 2 => some .genset | 3 => some .brake
  | _ => none

def Port.index : Port → Nat
  | .traction => 0 | .pack => 1 | .genset => 2 | .brake => 3

/-- One value for each partner port. -/
structure PerPort (α : Type) where
  traction : α
  pack : α
  genset : α
  brake : α
  deriving DecidableEq, Repr, Inhabited

def PerPort.get {α : Type} (x : PerPort α) : Port → α
  | .traction => x.traction | .pack => x.pack | .genset => x.genset | .brake => x.brake

def PerPort.set {α : Type} (x : PerPort α) (p : Port) (v : α) : PerPort α :=
  match p with
  | .traction => { x with traction := v } | .pack => { x with pack := v }
  | .genset => { x with genset := v } | .brake => { x with brake := v }

def PerPort.fill {α : Type} (v : α) : PerPort α := ⟨v, v, v, v⟩

/-- The driveline modes (R87); a contract's mode is one of the first three (R26). -/
inductive Mode where
  | electric | hybrid | charge | safe
  deriving DecidableEq, Repr, Inhabited

/-- One value for each driveline mode. -/
structure PerMode (α : Type) where
  electric : α
  hybrid : α
  charge : α
  safe : α
  deriving DecidableEq, Repr, Inhabited

def PerMode.get {α : Type} (x : PerMode α) : Mode → α
  | .electric => x.electric | .hybrid => x.hybrid | .charge => x.charge | .safe => x.safe

def PerMode.set {α : Type} (x : PerMode α) (m : Mode) (v : α) : PerMode α :=
  match m with
  | .electric => { x with electric := v } | .hybrid => { x with hybrid := v }
  | .charge => { x with charge := v } | .safe => { x with safe := v }

end Sys2Proof
end

