-- ==== Sys2Proof/Syntax.lean ====
section
/-! DEFINITION. The commands of the part: one constructor of `Instr` for each row of spec/opcode_table.json, with the
operands its rule gives it. -/

namespace Sys2Proof

/-- Port states (R156). -/
inductive PortState where
  | down | up | lost
  deriving DecidableEq, Repr, Inhabited

/-- What brings the part to its power-on state (R167): the supply, or the RESET input. -/
inductive ResetCause where
  | powerOn | resetInput
  deriving DecidableEq, Repr, Inhabited

/-- A traction report, as sent and as stored (R2). -/
structure TractionReport where
  v : Nat
  pReq : Nat
  pMin : Nat
  giveBack : Bool
  rMot : Nat
  motorTemp : Int
  deriving DecidableEq, Repr, Inhabited

/-- A pack report, as sent and as stored (R3). -/
structure PackReport where
  soc : Nat
  temp : Int
  pPack : Int
  aAcc : Nat
  deriving DecidableEq, Repr, Inhabited

/-- A genset report as sent (R4): the condition is a number the View maps. -/
structure RawGensetReport where
  condition : Nat
  coolant : Int
  fault : Nat
  deriving DecidableEq, Repr, Inhabited

/-- A brake demand, as sent and as stored (R5). -/
structure BrakeDemand where
  d : Nat
  m : Nat
  load1 : Nat
  load2 : Nat
  load3 : Nat
  abs1 : Bool
  abs2 : Bool
  abs3 : Bool
  parking : Bool
  deriving DecidableEq, Repr, Inhabited

/-- An offer entry as sent (R6, section 10-3). -/
structure RawOffer where
  power : Nat
  duration : Nat
  peak : Bool
  quiet : Bool
  cost : Nat
  deriving DecidableEq, Repr, Inhabited

/-- The ports that may post offers (R6). -/
inductive Supplier where
  | pack | genset
  deriving DecidableEq, Repr, Inhabited

def Supplier.port : Supplier → Port
  | .pack => .pack | .genset => .genset

/-- The ports that may be a party to a proposal (R43), and may send ACCEPT and DECLINE (R149). -/
inductive Party where
  | traction | pack | genset
  deriving DecidableEq, Repr, Inhabited

def Party.port : Party → Port
  | .traction => .traction | .pack => .pack | .genset => .genset

/-- Engine conditions (R4). -/
inductive EngineCondition where
  | stopped | cranking | running | fault
  deriving DecidableEq, Repr, Inhabited

/-- The kinds of report that raise an arrival notice (R12). -/
inductive ArrivalKind where
  | traction | pack | storageList | gensetList
  deriving DecidableEq, Repr, Inhabited

/-- The change set of an arrival notice (R12). -/
structure ChangeSet where
  basis : Bool
  giveBack : Bool
  acceptance : Bool
  chargeMark : Bool
  offers : Bool
  deriving DecidableEq, Repr, Inhabited

/-- The empty change set. -/
def ChangeSet.none : ChangeSet := ⟨false, false, false, false, false⟩

/-- Why genset wanted was raised (R64, R68). -/
inductive WantCause where
  | demand | charge
  deriving DecidableEq, Repr, Inhabited

/-- The four activity sources (R75). -/
inductive ActivitySource where
  | tractionRise | brakeRelease | socLow | service
  deriving DecidableEq, Repr, Inhabited

/-- The new level of a condition, as its owner hands it to the Warning Unit (R139, R140). -/
inductive OwnerLevel where
  | padGrade (w : Wheel) (grade : Nat)
  | fade (w : Wheel) (on : Bool)
  | batteryGrade (grade : Nat)
  | engineGrade (grade : Nat)
  | gensetLockout (on : Bool)
  | mismatch (on : Bool)
  | safeState (on : Bool)
  | portLost (p : Port) (on : Bool)
  | settingsBad (on : Bool)
  | wearBad (on : Bool)
  deriving DecidableEq, Repr, Inhabited

/-- What is given of an SPI exchange (R148): the whole of it, or its two ends one after the other, so that other events
can fall between them (R154). -/
inductive SpiEvent where
  /-- select falls, the bytes are clocked in, select rises -/
  | whole (inbound : List Byte)
  /-- select falls -/
  | selectFalls
  /-- select rises after these bytes were clocked in -/
  | selectRises (inbound : List Byte)
  deriving DecidableEq, Repr, Inhabited

/-- The two marks of R24. -/
inductive ChargeMark where
  | start | stop
  deriving DecidableEq, Repr, Inhabited

/-- The three warn grades (R139). -/
inductive WarnGradeKind where
  | pad | battery | engine
  deriving DecidableEq, Repr, Inhabited

/-- A warning's own delivery mask, by its code, or the global delivery mask (R144). -/
inductive MaskTarget where
  | code (c : Nat)
  | globalMask
  deriving DecidableEq, Repr, Inhabited

/-- The commands, in the order of spec/opcode_table.json. The rows that are signals from one unit to another carry what
the unit hands on; the rows that are requests carry the request's fields as sent. -/
inductive Instr where
  | powerOnReset (cause : ResetCause)
  | settingsLoadEnd
  | keyOn
  | keyOff
  | spiExchange (p : Port) (e : SpiEvent)
  | statusQuery (p : Port)
  | tractionReport (r : TractionReport)
  | packReport (r : PackReport)
  | gensetReport (r : RawGensetReport)
  | brakeDemand (r : BrakeDemand)
  | offerList (sup : Supplier) (entries : List RawOffer)
  | accept (p : Party) (number : Nat)
  | decline (p : Party) (number : Nat) (reason : Nat)
  | yieldPower (p : Port) (kw : Nat)
  | silenceTimerExpiry (p : Port)
  | portStateView (p : Port) (now : PortState)
  | portStateContract (p : Port) (now : PortState)
  | latePortUpNotice (p : Port)
  | portStateSequencer (now : PortState)
  | portStateBlend (p : Port) (now : PortState)
  | arrivalNotice (kind : ArrivalKind) (changes : ChangeSet)
  | acceptanceWindowExpiry
  | roundRestExpiry
  | peakExpiry
  | gensetEntersOnline
  | gensetLeavesOnline
  | derateChange
  | penaltyChange
  | quietZoneChange
  | auxChange
  | gensetWantedChange (wanted : Bool) (cause : WantCause)
  | gensetReportSignal (cond : EngineCondition) (coolant : Int) (fault : Option Nat)
  | activitySignal (src : ActivitySource)
  | criticalMarkSignal
  | commitmentHanded (kw : Nat) (index : Option Nat)
  | quietZoneSequencer (on : Bool)
  | crankTimerExpiry
  | restTimerExpiry
  | warmTimerExpiry
  | idleOffExpiry
  | cooldownTimerExpiry
  | modeDerivation
  | blendTimerExpiry
  | blendImmediateRun
  | fadeCopyUpdate (level : Bool)
  | frictionHandOff (powers : Six Nat) (ms : Nat)
  | coolingTimerExpiry
  | packHandOff (pPack : Int) (temp : Int) (dt : Nat)
  | startPointsHandOff (points : Nat)
  | conditionLevelChange (levels : List OwnerLevel)
  | serviceWrite (addr : Nat) (bytes : List Byte)
  | serviceRead (addr : Nat) (count : Nat)
  | serviceReadHoldTimeout
  | serviceStatusQuery
  | readItem (item : Nat)
  | activityStatusRead
  | writeItem (item : Nat) (copy : Bool) (value : Int)
  | writeModeVector (m : Mode) (value : Int)
  | writeRatedDraw (line : Fin 8) (value : Int)
  | writePolarity (line : Fin 8) (value : Int)
  | writePadAccount (w : Wheel) (copy : Bool) (value : Int)
  | writePadLife (w : Wheel) (copy : Bool) (value : Int)
  | writeHeatCapacity (w : Wheel) (copy : Bool) (value : Int)
  | writeBatteryAccount (value : Int)
  | writeBatteryLife (value : Int)
  | writeEngineAccount (value : Int)
  | writeEngineLife (value : Int)
  | writeFadeThreshold (value : Int)
  | writeWarnGrade (kind : WarnGradeKind) (value : Int)
  | writeChargeMark (mark : ChargeMark) (value : Int)
  | writeCriticalMark (value : Int)
  | writeDeliveryMask (target : MaskTarget) (value : Int)
  | clearWarnings (codes : BitVec 24)
  | wearResetPad (account : Nat) (copy : Bool)
  | wearResetBattery
  | wearResetEngine
  | clearLockout
  | activity
  | setQuietZone (on : Bool)
  | portReset (port : Nat)
  | tallyClear (port : Nat)
  | drivelineReset
  | commit
  | wearSaveTimerExpiry
  | storeWriteCompletion (ok : Bool)
  deriving DecidableEq, Repr, Inhabited

end Sys2Proof
end

