-- ==== Sys2Proof/WellFormed.lean ====
section
/-! DEFINITION. When a command is one the part can be given: each operand fits the bits its frame layout gives it
(sections 10-3 and 11-3), or the range of the record a unit hands it on from. -/

namespace Sys2Proof

/-- An unsigned field of `bits` bits. -/
def fitsNat (bits n : Nat) : Bool := decide (n < 2 ^ bits)

/-- A signed 16-bit field (section 10-3). -/
def fits16 (i : Int) : Bool := decide (-32768 ≤ i) && decide (i < 32768)

/-- A signed 32-bit item value (R160). -/
def fits32 (i : Int) : Bool := decide (-2147483648 ≤ i) && decide (i < 2147483648)

/-- An unsigned 32-bit item value: the pad and battery accounts (R160). -/
def fitsU32 (i : Int) : Bool := decide (0 ≤ i) && decide (i < 4294967296)

def TractionReport.fits (r : TractionReport) : Bool :=
  fitsNat 16 r.v && fitsNat 16 r.pReq && fitsNat 16 r.pMin && fitsNat 16 r.rMot && fits16 r.motorTemp

def PackReport.fits (r : PackReport) : Bool :=
  fitsNat 16 r.soc && fits16 r.temp && fits16 r.pPack && fitsNat 16 r.aAcc

def RawGensetReport.fits (r : RawGensetReport) : Bool :=
  fitsNat 8 r.condition && fits16 r.coolant && fitsNat 8 r.fault

def BrakeDemand.fits (r : BrakeDemand) : Bool :=
  fitsNat 16 r.d && fitsNat 16 r.m && fitsNat 16 r.load1 && fitsNat 16 r.load2 && fitsNat 16 r.load3

def RawOffer.fits (r : RawOffer) : Bool :=
  fitsNat 12 r.power && fitsNat 10 r.duration && fitsNat 5 r.cost

/-- Item numbers whose values travel unsigned (R160): the pad accounts 0x398 to 0x39D and the battery account 0x400. -/
def unsignedItem (n : Nat) : Bool := (decide (0x398 ≤ n) && decide (n ≤ 0x39D)) || n == 0x400

/-- The command's operands fit their fields. -/
def Instr.wellFormed : Instr → Bool
  | .powerOnReset _ => true
  | .settingsLoadEnd => true
  | .keyOn => true
  | .keyOff => true
  | .spiExchange _ _ => true
  | .statusQuery _ => true
  | .tractionReport r => r.fits
  | .packReport r => r.fits
  | .gensetReport r => r.fits
  | .brakeDemand r => r.fits
  | .offerList _ es => decide (es.length ≤ 7) && es.all RawOffer.fits
  | .accept _ n => fitsNat 8 n
  | .decline _ n reason => fitsNat 8 n && fitsNat 8 reason
  | .yieldPower _ kw => fitsNat 16 kw
  | .silenceTimerExpiry _ => true
  | .portStateView _ _ => true
  | .portStateContract _ _ => true
  | .latePortUpNotice p => p == .genset || p == .brake
  | .portStateSequencer _ => true
  | .portStateBlend p _ => p == .traction || p == .brake
  | .arrivalNotice _ _ => true
  | .acceptanceWindowExpiry => true
  | .roundRestExpiry => true
  | .peakExpiry => true
  | .gensetEntersOnline => true
  | .gensetLeavesOnline => true
  | .derateChange => true
  | .penaltyChange => true
  | .quietZoneChange => true
  | .auxChange => true
  | .gensetWantedChange _ _ => true
  | .gensetReportSignal _ coolant fault => decide (-40 ≤ coolant) && decide (coolant ≤ 200) && fault.all (fitsNat 8)
  | .activitySignal src => src != .service
  | .criticalMarkSignal => true
  | .commitmentHanded kw index => decide (kw ≤ 1023) && index.all fun i => decide (1 ≤ i) && decide (i ≤ 6)
  | .quietZoneSequencer _ => true
  | .crankTimerExpiry => true
  | .restTimerExpiry => true
  | .warmTimerExpiry => true
  | .idleOffExpiry => true
  | .cooldownTimerExpiry => true
  | .modeDerivation => true
  | .blendTimerExpiry => true
  | .blendImmediateRun => true
  | .fadeCopyUpdate _ => true
  | .frictionHandOff powers _ => powers.toList.all fun p => decide (p ≤ 1023)
  | .coolingTimerExpiry => true
  | .packHandOff pPack temp dt =>
      decide (-1023 ≤ pPack) && decide (pPack ≤ 1023) && decide (-40 ≤ temp) && decide (temp ≤ 200) && decide (dt ≤ 500)
  | .startPointsHandOff points => points == 1 || points == 3
  | .conditionLevelChange _ => true
  | .serviceWrite addr _ => fitsNat 7 addr
  | .serviceRead addr _ => fitsNat 7 addr
  | .serviceReadHoldTimeout => true
  | .serviceStatusQuery => true
  | .readItem n => fitsNat 16 n
  | .activityStatusRead => true
  | .writeItem n _ v => fitsNat 16 n && (if unsignedItem n then fitsU32 v else fits32 v)
  | .writeModeVector _ v => fits32 v
  | .writeRatedDraw _ v => fits32 v
  | .writePolarity _ v => fits32 v
  | .writePadAccount _ _ v => fitsU32 v
  | .writePadLife _ _ v => fits32 v
  | .writeHeatCapacity _ _ v => fits32 v
  | .writeBatteryAccount v => fitsU32 v
  | .writeBatteryLife v => fits32 v
  | .writeEngineAccount v => fits32 v
  | .writeEngineLife v => fits32 v
  | .writeFadeThreshold v => fits32 v
  | .writeWarnGrade _ v => fits32 v
  | .writeChargeMark _ v => fits32 v
  | .writeCriticalMark v => fits32 v
  | .writeDeliveryMask target v =>
      fits32 v && (match target with | .code c => decide (1 ≤ c) && decide (c ≤ 23) | .globalMask => true)
  | .clearWarnings _ => true
  | .wearResetPad account _ => fitsNat 8 account && account != 6 && account != 7
  | .wearResetBattery => true
  | .wearResetEngine => true
  | .clearLockout => true
  | .activity => true
  | .setQuietZone _ => true
  | .portReset port => fitsNat 8 port
  | .tallyClear port => fitsNat 8 port
  | .drivelineReset => true
  | .commit => true
  | .wearSaveTimerExpiry => true
  | .storeWriteCompletion _ => true

end Sys2Proof
end

