-- ==== Sys2Proof/Decode.lean ====
section
/-! DEFINITION. The commands a word spells by the bits of spec/opcode_table.json: the table gives no row any bits, so no word
spells a command (log 25). The frames the ports carry are read in Sys2Proof/Machine/Frames.lean. -/

namespace Sys2Proof

/-- The command a word spells: none, for want of bits in the table (log 25). -/
def decodeTableWord (_nbits _w : Nat) : Option Instr := none

end Sys2Proof
end

