-- ==== Sys2Proof/Machine/Settings.lean ====
section
/-! DEFINITION. The working settings with their defaults, the contents of the wear image, and a store region with its
check word (R161, R165). -/

namespace Sys2Proof.Machine

/-- Edge selections (R139). -/
inductive Edge where
  | rise | fall | both
  deriving DecidableEq, Repr, Inhabited

/-- The working settings: every setting of items 0x500 to 0x5FF (R161), and the heat capacities, which the settings
image also holds (R120, R165). -/
structure Settings where
  /-- kW, 5 to 100 (R14) -/
  activityRise : Nat
  /-- reselection hysteresis, kW, 0 to 50 (R12) -/
  hysteresis : Nat
  /-- 0 to 1000 (R24) -/
  chargeStart : Nat
  /-- 0 to 1000 (R24) -/
  chargeStop : Nat
  /-- 0 to 1000 (R66) -/
  criticalMark : Nat
  /-- kW, 0 to 1023 (R25) -/
  chargeTarget : Nat
  /-- kW, 0 to 1023 (R30) -/
  regenCap : Nat
  /-- acceptance window, ms, 50 to 1000 (R43) -/
  window : Nat
  /-- s, 2 to 15 (R64) -/
  crank : Nat
  /-- s, 10 to 600 (R64) -/
  warm : Nat
  /-- s, 5 to 300 (R64) -/
  cooldown : Nat
  /-- s, 1 to 30 (R64) -/
  quietCooldown : Nat
  /-- degrees, 0 to 120 (R64) -/
  warmTemp : Int
  /-- 0 to 15 (R73) -/
  idleOffCode : Nat
  /-- activity masks (R75): a set mask keeps its source from restarting the idle-off timer -/
  maskTractionRise : Bool
  maskBrakeRelease : Bool
  maskSocLow : Bool
  maskService : Bool
  /-- mode vectors, line 1 in bit 0 (R89, R161) -/
  vectors : PerMode (BitVec 8)
  /-- rated draws of lines 1 to 8, kW, 0 to 63 (R88) -/
  draws : List Nat
  /-- polarities, line 1 in bit 0 (R91) -/
  polarity : BitVec 8
  /-- ms: 10, 20 or 40 (R99) -/
  blendPeriod : Nat
  /-- 0.1 m/s, 0 to 300 (R103) -/
  vLo : Nat
  /-- 0.1 m/s, 0 to 300 (R103) -/
  vHi : Nat
  /-- driveline efficiency, percent, 70 to 100 (R104) -/
  eta : Nat
  /-- percent (R105) -/
  driveShare : Nat
  /-- percent (R105) -/
  hotShare : Nat
  /-- up slope, kW per period, 1 to 255 (R108) -/
  upSlope : Nat
  /-- down slope, kW per period, 1 to 255 (R108) -/
  downSlope : Nat
  /-- catch-up window, kW, 0 to 1023 (R108) -/
  catchUp : Nat
  /-- degrees, -40 to 200 (R120) -/
  ambient : Int
  /-- degrees, 0 to 200 (R120) -/
  restartMargin : Nat
  /-- degrees, 0 to 1023 (R120) -/
  warmThreshold : Nat
  /-- degrees, 0 to 1023 (R120) -/
  hotThreshold : Nat
  /-- degrees, 0 to 1023 (R120) -/
  fadeThreshold : Nat
  /-- kW, 0 to 1023 (R130) -/
  highRate : Nat
  /-- degrees, -40 to 200 (R130) -/
  packHot : Int
  /-- edge selections of warning codes 1 to 23 (R139) -/
  edges : List Edge
  /-- delivery masks of warning codes 1 to 23: Traction, Pack, Genset, Brake, service in bits 0 to 4 (R139, R161) -/
  masks : List (BitVec 5)
  /-- warn grades, 1 to 7 (R139) -/
  padWarn : Nat
  batteryWarn : Nat
  engineWarn : Nat
  /-- global delivery mask (R144) -/
  globalMask : Bool
  /-- silence window, ms, 20 to 500 in steps of 10 (R156) -/
  silenceWindow : Nat
  /-- Service port address, 7 bits (R159) -/
  address : Nat
  /-- heat capacities, J per degree, 1000 to 65535 (R120) -/
  heatCapacity : Six Nat
  deriving DecidableEq, Repr, Inhabited

/-- The default edge selections (R139): RISE, but BOTH for the four PORT_LOST warnings. -/
def defaultEdges : List Edge :=
  List.replicate 17 .rise ++ List.replicate 4 .both ++ List.replicate 2 .rise

/-- The default delivery masks (R139). -/
def defaultMasks : List (BitVec 5) :=
  List.replicate 6 0b10000#5 ++ List.replicate 6 0b11000#5 ++
    [0b10010#5, 0b10100#5, 0b10101#5, 0b10001#5, 0b11111#5] ++
    List.replicate 4 0b11111#5 ++ List.replicate 2 0b10000#5

/-- Every setting at the default its chapter gives. -/
def Settings.default : Settings where
  activityRise := 20
  hysteresis := 10
  chargeStart := 350
  chargeStop := 600
  criticalMark := 150
  chargeTarget := 80
  regenCap := 400
  window := 200
  crank := 6
  warm := 90
  cooldown := 30
  quietCooldown := 5
  warmTemp := 60
  idleOffCode := 10
  maskTractionRise := false
  maskBrakeRelease := false
  maskSocLow := false
  maskService := false
  vectors := { electric := 0x1B#8, hybrid := 0x7F#8, charge := 0x3F#8, safe := 0x3D#8 }
  draws := [4, 6, 2, 2, 2, 2, 4, 8]
  polarity := 0xFF#8
  blendPeriod := 20
  vLo := 20
  vHi := 50
  eta := 88
  driveShare := 45
  hotShare := 70
  upSlope := 20
  downSlope := 40
  catchUp := 100
  ambient := 20
  restartMargin := 60
  warmThreshold := 300
  hotThreshold := 450
  fadeThreshold := 400
  highRate := 150
  packHot := 45
  edges := defaultEdges
  masks := defaultMasks
  padWarn := 5
  batteryWarn := 4
  engineWarn := 6
  globalMask := false
  silenceWindow := 100
  address := 0x52
  heatCapacity := Six.fill 12000

/-- What the wear image holds (R165): accounts, residues and lives. -/
structure WearContents where
  /-- kJ -/
  padAccount : Six Nat
  /-- J -/
  padResidue : Six Nat
  /-- MJ -/
  padLife : Six Nat
  /-- MJ -/
  batteryAccount : Nat
  /-- J -/
  batteryResidue : Nat
  /-- MJ -/
  batteryLife : Nat
  /-- start points -/
  engineAccount : Nat
  /-- start points -/
  engineLife : Nat
  deriving DecidableEq, Repr, Inhabited

/-- What the Wear Unit takes when the wear image is bad (R121, R137): zeros and default lives. -/
def WearContents.default : WearContents where
  padAccount := Six.fill 0
  padResidue := Six.fill 0
  padLife := Six.fill 20000
  batteryAccount := 0
  batteryResidue := 0
  batteryLife := 2000000
  engineAccount := 0
  engineLife := 30000

/-- A store region (R165): its contents and the CRC-16 check word written with them. -/
structure Image (α : Type) where
  contents : α
  check : BitVec 16
  deriving DecidableEq, Repr, Inhabited

end Sys2Proof.Machine
end

