-- ==== Sys2Proof/Config.lean ====
section
/-! DEFINITION. The free values: constants without a body for what the manual leaves open and the part goes on with. Each is
applied to a counter of State, so that two uses need not agree. -/

namespace Sys2Proof.Config

/-- What the Contract Unit reads for a traction report that is absent while the gate is still OPEN (R20 says that this
report is then present; log 10). The View's clamping is applied to it. -/
opaque absentTraction : Nat → TractionReport

/-- What the Contract Unit reads for a pack report that is absent while the gate is still OPEN (R20; log 10). The View's
clamping is applied to it. -/
opaque absentPack : Nat → PackReport

/-- What the settings region holds after a write of these settings over this region failed, or was cut off by the RESET
input (R165 gives the mark and not the contents; log 8). -/
opaque tornSettings : Nat → Machine.Image Machine.Settings → Machine.Settings → Machine.Image Machine.Settings

/-- The same for the wear region (R165; log 8). -/
opaque tornWear : Nat → Machine.Image Machine.WearContents → Machine.WearContents → Machine.Image Machine.WearContents

end Sys2Proof.Config
end

