-- ==== Sys2Proof/Machine/Crc.lean ====
section
/-! DEFINITION. The two cyclic redundancy checks (section 10-3, R165), the byte order of multi-byte fields, and the bytes a
store region is checked over. -/

namespace Sys2Proof.Machine

/-- One shift of a most-significant-bit-first CRC register of `width` bits with polynomial `poly`. -/
def crcShift (width poly reg : Nat) : Nat :=
  if reg / 2 ^ (width - 1) % 2 = 1 then Nat.xor (reg * 2) poly % 2 ^ width else reg * 2 % 2 ^ width

/-- `k` shifts; the register is brought to a numeral at each, so that the kernel can evaluate long ones. -/
def crcShifts (width poly : Nat) : Nat → Nat → Nat
  | 0, reg => reg
  | k + 1, reg =>
    match crcShift width poly reg with
    | 0 => crcShifts width poly k 0
    | n + 1 => crcShifts width poly k (n + 1)

/-- The register after these bytes. -/
def crcBytes (width poly : Nat) : List Byte → Nat → Nat
  | [], reg => reg
  | b :: bs, reg =>
    match crcShifts width poly 8 (Nat.xor reg (b.toNat * 2 ^ (width - 8))) with
    | 0 => crcBytes width poly bs 0
    | n + 1 => crcBytes width poly bs (n + 1)

/-- CRC-8 of a frame (section 10-3): polynomial x^8 + x^2 + x + 1, initial value 0xFF. -/
def crc8 (bytes : List Byte) : Byte := BitVec.ofNat 8 (crcBytes 8 0x07 bytes 0xFF)

/-- CRC-16 of a store region (R165): polynomial x^16 + x^12 + x^5 + 1, initial value 0xFFFF. That it is taken most significant bit
first, not reflected and with no final XOR, is the model's (DESIGN CHOICE, log 9). -/
def crc16 (bytes : List Byte) : BitVec 16 := BitVec.ofNat 16 (crcBytes 16 0x1021 bytes 0xFFFF)

/-- The two bytes of an unsigned 16-bit field, least significant first (section 10-3). -/
def le16 (n : Nat) : List Byte := [BitVec.ofNat 8 n, BitVec.ofNat 8 (n / 256)]

/-- The two bytes of a signed 16-bit field, two's complement (section 10-3). -/
def le16s (i : Int) : List Byte := le16 (BitVec.ofInt 16 i).toNat

/-- The four bytes of an item value, least significant first (R160). -/
def le32 (i : Int) : List Byte :=
  let n := (BitVec.ofInt 32 i).toNat
  [BitVec.ofNat 8 n, BitVec.ofNat 8 (n / 256), BitVec.ofNat 8 (n / 65536), BitVec.ofNat 8 (n / 16777216)]

/-- An unsigned 16-bit field from its two bytes. -/
def nat16 (lo hi : Byte) : Nat := lo.toNat + 256 * hi.toNat

/-- A signed 16-bit field from its two bytes. -/
def int16 (lo hi : Byte) : Int := (BitVec.ofNat 16 (nat16 lo hi)).toInt

/-- An unsigned 32-bit item value from its four bytes. -/
def nat32 (a b c d : Byte) : Nat := a.toNat + 256 * b.toNat + 65536 * c.toNat + 16777216 * d.toNat

/-- A signed 32-bit item value from its four bytes. -/
def int32 (a b c d : Byte) : Int := (BitVec.ofNat 32 (nat32 a b c d)).toInt

/-- A flag as an item reads it (R161). -/
def flag (b : Bool) : Int := if b then 1 else 0

/-- A kilowatt or other unsigned figure as an item reads it. -/
def num (n : Nat) : Int := n

/-- Edge selections as items read them: their places in R139's list. -/
def Edge.code : Edge → Int
  | .rise => 0 | .fall => 1 | .both => 2

/-- The values of the settings in the order of their item numbers (R161), the heat capacities last. -/
def Settings.values (x : Settings) : List Int :=
  [num x.activityRise, num x.hysteresis, num x.chargeStart, num x.chargeStop, num x.criticalMark,
    num x.chargeTarget, num x.regenCap, num x.window,
    num x.crank, num x.warm, num x.cooldown, num x.quietCooldown, x.warmTemp, num x.idleOffCode,
    flag x.maskTractionRise, flag x.maskBrakeRelease, flag x.maskSocLow, flag x.maskService,
    num x.vectors.electric.toNat, num x.vectors.hybrid.toNat, num x.vectors.charge.toNat, num x.vectors.safe.toNat] ++
    x.draws.map num ++
    [num x.polarity.toNat,
    num x.blendPeriod, num x.vLo, num x.vHi, num x.eta, num x.driveShare, num x.hotShare, num x.upSlope,
    num x.downSlope, num x.catchUp,
    x.ambient, num x.restartMargin, num x.warmThreshold, num x.hotThreshold, num x.fadeThreshold,
    num x.highRate, x.packHot] ++
    x.edges.map Edge.code ++ x.masks.map (fun m => num m.toNat) ++
    [num x.padWarn, num x.batteryWarn, num x.engineWarn, flag x.globalMask, num x.silenceWindow, num x.address] ++
    x.heatCapacity.toList.map num

/-- The values of the wear image: pad accounts, residues and lives, then the battery's and the engine's (R165). -/
def WearContents.values (x : WearContents) : List Int :=
  (x.padAccount.toList ++ x.padResidue.toList ++ x.padLife.toList ++
    [x.batteryAccount, x.batteryResidue, x.batteryLife, x.engineAccount, x.engineLife]).map num

/-- The check word of a region holding these values, each as the four bytes of an item value (the layout is the model's:
DESIGN CHOICE, log 9; the polynomial and initial value are R165's). -/
def checkWord (values : List Int) : BitVec 16 := crc16 (values.flatMap le32)

/-- The settings image as a whole write leaves it (R165). -/
def writtenSettings (x : Settings) : Image Settings := ⟨x, checkWord x.values⟩

/-- The wear image as a whole write leaves it (R165). -/
def writtenWear (x : WearContents) : Image WearContents := ⟨x, checkWord x.values⟩

/-- The check word of the settings region agrees with its contents (R167). -/
def settingsImageGood (i : Image Settings) : Bool := i.check == checkWord i.contents.values

/-- The check word of the wear region agrees with its contents (R167). -/
def wearImageGood (i : Image WearContents) : Bool := i.check == checkWord i.contents.values

end Sys2Proof.Machine
end

