-- ==== Sys2Proof/Machine/State.lean ====
section
/-! DEFINITION. Everything the manual gives the part to hold, as plain data, and the state right after reset. -/

namespace Sys2Proof.Machine

/-- A command may end in a fault: none of this part does, so the type has no constructor (log 32). -/
inductive Fault where
  deriving DecidableEq, Repr

/-- Why a command has no meaning. -/
inductive Refusal where
  /-- raised by `exec` alone, for a row whose meaning is not written; safe: the machine stops -/
  | notModelled (mnemonic : String)
  deriving DecidableEq, Repr

/-- A timer (section 0-6): stopped, running with this many milliseconds left, or running and never expiring (the idle-off
timer with code 0, R73). -/
inductive Timer where
  | stopped
  | running (left : Nat)
  | endless
  deriving DecidableEq, Repr, Inhabited

/-- The gate of the Contract Unit (R37). -/
inductive Gate where
  | blocked | opened | safe
  deriving DecidableEq, Repr, Inhabited

/-! ### Contracts (chapters 2 and 3) -/

/-- Why terms are in mismatch (R31). -/
inductive Mismatch where
  | shortSupply | belowMinimum
  deriving DecidableEq, Repr, Inhabited

/-- The terms of R29. The mismatch flag is set exactly while its reason is present; the peak expiry is present exactly when
`peak` carries its duration in seconds. -/
structure Terms where
  basisReq : Nat
  basisMin : Nat
  grant : Nat
  storageIndex : Nat
  share : Nat
  gensetIndex : Option Nat
  commitment : Nat
  aux : Nat
  charge : Nat
  ceiling : Nat
  mode : Mode
  mismatch : Option Mismatch
  reduced : Bool
  peak : Option Nat
  deriving DecidableEq, Repr, Inhabited

/-- The active contract: its number and its terms (R40). -/
structure Contract where
  number : Nat
  terms : Terms
  deriving DecidableEq, Repr, Inhabited

/-- A set of parties (R43, R63). -/
structure PartySet where
  traction : Bool
  pack : Bool
  genset : Bool
  deriving DecidableEq, Repr, Inhabited

/-- The pending proposal (R43), with which lists its offer indices speak of (R8). -/
structure Proposal where
  number : Nat
  terms : Terms
  required : PartySet
  accepted : PartySet
  storageSerial : Nat
  gensetSerial : Nat
  deriving DecidableEq, Repr, Inhabited

/-- The round state (R42). -/
inductive Round where
  | idle
  | resting
  | inRound (count : Nat)
  deriving DecidableEq, Repr, Inhabited

/-- Decline reasons (R46, R49, R59), in R63's order. -/
inductive DeclineReason where
  | overLimit | notReady | thermal | other | timeout | lost
  deriving DecidableEq, Repr, Inhabited

/-- Drop reasons, in R60's order. -/
inductive DropReason where
  | tractionLost | packLost | supplyBelowAux | noStorageOffer | belowMinimum | noGiveBack | keyOff | drivelineReset
  deriving DecidableEq, Repr, Inhabited

/-- The last-decline record (R63). -/
structure LastDecline where
  ports : PartySet
  reason : DeclineReason
  number : Nat
  deriving DecidableEq, Repr, Inhabited

/-- The last-drop record (R63). -/
structure LastDrop where
  reason : DropReason
  number : Nat
  deriving DecidableEq, Repr, Inhabited

/-- The outcome field of the last-selection record (R34). -/
inductive SelectionOutcome where
  | notRun | propose | same | noTerms
  deriving DecidableEq, Repr, Inhabited

/-- The reason field of the last-selection record (R34), in that rule's order. -/
inductive SelectionReason where
  | shortSupply | belowMinimum | noStorageOffer | supplyBelowAux
  deriving DecidableEq, Repr, Inhabited

/-- The last-selection record (R34). -/
structure LastSelection where
  outcome : SelectionOutcome
  reason : Option SelectionReason
  storageIndex : Option Nat
  gensetIndex : Option Nat
  formed : Nat
  covered : Nat
  deriving DecidableEq, Repr, Inhabited

/-- What the Contract Unit holds (section 3-1, chapter 2). -/
structure ContractUnit where
  gate : Gate
  sinceTraction : Bool
  sincePack : Bool
  active : Option Contract
  proposal : Option Proposal
  counter : Nat
  round : Round
  settled : Bool
  window : Timer
  rest : Timer
  peak : Timer
  peakSerial : Nat
  chargeNeed : Bool
  gensetWanted : Bool
  lastSelection : LastSelection
  lastDecline : Option LastDecline
  lastDrop : Option LastDrop
  deriving DecidableEq, Repr, Inhabited

/-! ### The Partner View (chapter 1) -/

/-- A genset report as stored (R4). -/
structure GensetReport where
  condition : EngineCondition
  coolant : Int
  fault : Option Nat
  deriving DecidableEq, Repr, Inhabited

/-- An offer as stored (R6) with its two marks (R8); it is PEAK exactly when it has a duration. -/
structure Offer where
  duration : Option Nat
  power : Nat
  cost : Nat
  quiet : Bool
  excluded : Bool
  expired : Bool
  deriving DecidableEq, Repr, Inhabited

/-- A place of the View (R9): the record, when it arrived, and whether its mark is HELD rather than FRESH. -/
structure Place (α : Type) where
  content : α
  arrival : Nat
  held : Bool
  deriving DecidableEq, Repr, Inhabited

/-- The six places and the traction reference (R9, R13). The serials name the lists held (R8, R48). -/
structure View where
  traction : Option (Place TractionReport)
  pack : Option (Place PackReport)
  genset : Option (Place GensetReport)
  brake : Option (Place BrakeDemand)
  storage : Option (Place (List Offer))
  gensetList : Option (Place (List Offer))
  reference : Option (Nat × Nat)
  storageSerial : Nat
  gensetSerial : Nat
  deriving DecidableEq, Repr, Inhabited

/-! ### The Genset Sequencer (chapter 4) -/

/-- Genset states (R64). -/
inductive GensetState where
  | unknown | stopped | cranking | resting | warming | online | cooldown | lockedOut
  deriving DecidableEq, Repr, Inhabited

/-- Start causes (R64). -/
inductive StartCause where
  | none | demand | charge | service
  deriving DecidableEq, Repr, Inhabited

/-- Stop causes (R64). -/
inductive StopCause where
  | none | idleOff | quietZone | keyOff | fault | noStart | portLost
  deriving DecidableEq, Repr, Inhabited

/-- One latch, or one mask, for each activity source (R75). -/
structure ActivityFlags where
  tractionRise : Bool
  brakeRelease : Bool
  socLow : Bool
  service : Bool
  deriving DecidableEq, Repr, Inhabited

/-- What the Genset Sequencer holds (R64). -/
structure Sequencer where
  state : GensetState
  attempts : Nat
  wantedCopy : Bool
  wantCause : Option WantCause
  heldKw : Nat
  heldIndex : Option Nat
  startCause : StartCause
  stopCause : StopCause
  lockoutCode : Option Nat
  activity : ActivityFlags
  crank : Timer
  rest : Timer
  warm : Timer
  idleOff : Timer
  cooldown : Timer
  deriving DecidableEq, Repr, Inhabited

/-! ### The Auxiliary Output Unit (chapter 5) -/

/-- The eight lines: high-impedance, or driven with line 1's level in bit 0, 1 for high (R92, R93). -/
inductive Lines where
  | highZ
  | driven (levels : BitVec 8)
  deriving DecidableEq, Repr, Inhabited

structure AuxUnit where
  mode : Mode
  lines : Lines
  allowances : PerMode Nat
  deriving DecidableEq, Repr, Inhabited

/-! ### The Blend Unit (chapter 6) -/

/-- The blend result (R98). -/
structure BlendResult where
  pDem : Nat
  rMotor : Nat
  rStorage : Nat
  rAdhesion : Nat
  target : Nat
  applied : Nat
  dRegen : Nat
  dFriction : Nat
  friction : Nat
  axle1 : Nat
  axle2 : Nat
  axle3 : Nat
  wheels : Six Nat
  deriving DecidableEq, Repr, Inhabited

/-- The step of the ramp record (R98). -/
inductive RampStep where
  | none | up | upDoubled | down | downDoubled | held
  deriving DecidableEq, Repr, Inhabited

/-- The forced-zero causes (R107). -/
structure Forced where
  noContract : Bool
  brakePort : Bool
  abs3 : Bool
  keyOff : Bool
  deriving DecidableEq, Repr, Inhabited

/-- The last-queued FRICTION_COMMAND (R98, R113). -/
structure FrictionCopy where
  dFriction : Nat
  friction : Nat
  axle1 : Nat
  axle2 : Nat
  axle3 : Nat
  deriving DecidableEq, Repr, Inhabited

/-- What the Blend Unit holds (R98). The copy of REGEN_COMMAND is its R and D_r. -/
structure BlendUnit where
  result : BlendResult
  step : RampStep
  clipped : Bool
  forced : Forced
  regenCopy : Option (Nat × Nat)
  frictionCopy : Option FrictionCopy
  fade : Bool
  timer : Timer
  lastRun : Nat
  deriving DecidableEq, Repr, Inhabited

/-! ### The Wear Unit (chapters 7 and 8) -/

/-- A wheel-end record (R120), but for its heat capacity, which is a setting. -/
structure WheelEnd where
  /-- disc temperature estimate, sixteenths of a degree -/
  theta : Nat
  /-- heat residue, 1/16 J -/
  heat : Nat
  /-- pad account, kJ -/
  account : Nat
  /-- pad residue, J -/
  residue : Nat
  /-- pad life, MJ -/
  life : Nat
  grade : Nat
  fade : Bool
  deriving DecidableEq, Repr, Inhabited

/-- The battery record (R130). -/
structure BatteryRecord where
  /-- MJ -/
  account : Nat
  /-- J -/
  residue : Nat
  /-- MJ -/
  life : Nat
  grade : Nat
  derate : Nat
  deriving DecidableEq, Repr, Inhabited

/-- The engine record (R133). -/
structure EngineRecord where
  account : Nat
  life : Nat
  grade : Nat
  penalty : Nat
  deriving DecidableEq, Repr, Inhabited

structure WearUnit where
  wheels : Six WheelEnd
  anyFade : Bool
  cooling : Timer
  battery : BatteryRecord
  engine : EngineRecord
  deriving DecidableEq, Repr, Inhabited

/-! ### The Warning Unit (chapter 9) -/

/-- The four group summaries (R145). -/
structure Summaries where
  wheel : Bool
  powertrain : Bool
  link : Bool
  store : Bool
  deriving DecidableEq, Repr, Inhabited

/-- The warning table's levels and latches (R139), code c in bit c - 1 of each (bit 23 names no warning); edges and masks
are settings, code and group are fixed. `serviceLow` says that the service attention line is pulled low (R144). -/
structure WarningUnit where
  levels : BitVec 24
  latched : BitVec 24
  summaries : Summaries
  serviceLow : Bool
  deriving DecidableEq, Repr, Inhabited

/-! ### Ports (chapters 10 and 11) -/

/-- Commands of the Genset Sequencer (R83). -/
inductive GensetCommand where
  | start | stop | cooldown | operate
  deriving DecidableEq, Repr, Inhabited

/-- Notices (section 10-3). -/
inductive Notice where
  | contractOffer (number : Nat) (terms : Terms)
  | contractActive (number : Nat) (terms : Terms)
  | contractRevised (number : Nat) (terms : Terms)
  | contractWithdrawn (number : Nat)
  | contractDropped (number : Nat) (reason : DropReason)
  | regenCommand (r : Nat) (dRegen : Nat)
  | frictionCommand (c : FrictionCopy)
  | gensetCommand (c : GensetCommand) (index : Option Nat) (kw : Nat)
  | warning (code : Nat) (latched : BitVec 24)
  deriving DecidableEq, Repr, Inhabited

/-- Notice classes (R153). -/
inductive NoticeClass where
  | contract | command | warning
  deriving DecidableEq, Repr, Inhabited

/-- Refusal reasons (R152, R160). -/
inductive RefusalReason where
  | badCount | notOpen | notSource | unknownItem | readOnly | busy
  deriving DecidableEq, Repr, Inhabited

/-- Reply outcomes (R152). -/
inductive Answer where
  | done
  | refused (reason : RefusalReason)
  | stale
  | status
  deriving DecidableEq, Repr, Inhabited

/-- Frame-error classes (R149, R152). -/
inductive FrameClass where
  | frameCrc | frameLength | wrongKind
  deriving DecidableEq, Repr, Inhabited

/-- A reply as placed (R152): the OVERRUN flag joins it when it is clocked out (R151). `kind` is the request's kind. -/
inductive Reply where
  | answer (kind : Nat) (outcome : Answer) (clamped : Bool) (content : List Byte)
  | frameError (cls : FrameClass)
  deriving DecidableEq, Repr, Inhabited

/-- The inbound holding place and the reply slot (R150): a request in the holding place reserves the slot, so the two are
one piece of state. The request is kept as the command its owner takes it by. -/
inductive Slot where
  | empty
  | reserved (request : Instr)
  | reply (r : Reply)
  deriving DecidableEq, Repr, Inhabited

/-- Where the frame of an exchange was chosen from (R154). -/
inductive FrameSource where
  | idle
  | reply
  | notice (cls : NoticeClass)
  deriving DecidableEq, Repr, Inhabited

/-- An exchange in progress (R154): the frame chosen at select falling, whether it carries the OVERRUN flag, and whether
its entry has stood unreplaced since. -/
structure Exchange where
  frame : List Byte
  source : FrameSource
  overrun : Bool
  intact : Bool
  deriving DecidableEq, Repr, Inhabited

/-- What one Partner Port Unit holds (section 10-1). -/
structure PartnerPort where
  state : PortState
  silence : Timer
  slot : Slot
  queue : List Notice
  crcTally : Nat
  lengthTally : Nat
  kindTally : Nat
  overrun : Bool
  exchange : Option Exchange
  lastOut : List Byte
  orphan : Option Instr
  deriving DecidableEq, Repr, Inhabited

/-- What the Service port holds (R159), and what the last transaction showed on its two wires. -/
structure ServicePort where
  address : Nat
  inProcess : Option Instr
  reply : Option Reply
  /-- bytes still wanted by a read that waits with the clock held low -/
  hold : Option Nat
  holdTimer : Timer
  lastOut : List Byte
  addressAck : Bool
  dataAck : Bool
  deriving DecidableEq, Repr, Inhabited

/-- The store state (R165), WRITING with the values the write takes. -/
inductive StorePhase where
  | idle
  | writingSettings (taken : Settings)
  | writingWear (taken : WearContents)
  | failed
  deriving DecidableEq, Repr, Inhabited

structure Store where
  phase : StorePhase
  settingsBad : Bool
  wearBad : Bool
  pendingSave : Bool
  saveTimer : Timer
  settingsImage : Image Settings
  wearImage : Image WearContents
  deriving DecidableEq, Repr, Inhabited

/-- The whole part. -/
structure State where
  key : Bool
  loaded : Bool
  quiet : Bool
  ms : Nat
  ports : PerPort PartnerPort
  view : View
  cu : ContractUnit
  gs : Sequencer
  aux : AuxUnit
  blend : BlendUnit
  wear : WearUnit
  warn : WarningUnit
  svc : ServicePort
  settings : Settings
  store : Store
  signals : List Instr
  freeCount : Nat
  pending : List Instr
  deriving DecidableEq, Repr, Inhabited

/-! ### Right after reset -/

/-- A partner port after power-on (R156). -/
def PartnerPort.reset : PartnerPort where
  state := .down
  silence := .stopped
  slot := .empty
  queue := []
  crcTally := 0
  lengthTally := 0
  kindTally := 0
  overrun := false
  exchange := none
  lastOut := []
  orphan := none

/-- The View after power-on (R17). -/
def View.reset : View where
  traction := none
  pack := none
  genset := none
  brake := none
  storage := none
  gensetList := none
  reference := none
  storageSerial := 0
  gensetSerial := 0

/-- The last-selection record after power-on (R34). -/
def LastSelection.reset : LastSelection := ⟨.notRun, none, none, none, 0, 0⟩

/-- The Contract Unit after power-on (R24, R36, R37, R41, R42, R63). -/
def ContractUnit.reset : ContractUnit where
  gate := .blocked
  sinceTraction := false
  sincePack := false
  active := none
  proposal := none
  counter := 0
  round := .idle
  settled := false
  window := .stopped
  rest := .stopped
  peak := .stopped
  peakSerial := 0
  chargeNeed := false
  gensetWanted := false
  lastSelection := LastSelection.reset
  lastDecline := none
  lastDrop := none

/-- The Genset Sequencer after power-on (R65). -/
def Sequencer.reset : Sequencer where
  state := .unknown
  attempts := 0
  wantedCopy := false
  wantCause := none
  heldKw := 0
  heldIndex := none
  startCause := .none
  stopCause := .none
  lockoutCode := none
  activity := ⟨false, false, false, false⟩
  crank := .stopped
  rest := .stopped
  warm := .stopped
  idleOff := .stopped
  cooldown := .stopped

/-- The Auxiliary Output Unit after power-on (R87, R93). The allowances are those of the default settings until the load's
end computes them (DESIGN CHOICE, log 6). -/
def AuxUnit.reset : AuxUnit where
  mode := .safe
  lines := .highZ
  allowances := ⟨14, 22, 18, 12⟩

/-- The Blend Unit after power-on (R98). -/
def BlendUnit.reset : BlendUnit where
  result := ⟨0, 0, 0, 0, 0, 0, 0, 0, 0, 0, 0, 0, Six.fill 0⟩
  step := .none
  clipped := false
  forced := ⟨false, false, false, false⟩
  regenCopy := none
  frictionCopy := none
  fade := false
  timer := .stopped
  lastRun := 0

/-- The Wear Unit before the load's end sets its records (R121, R137): those of a bad wear image, every disc at 0
(DESIGN CHOICE, log 6). -/
def WearUnit.reset : WearUnit where
  wheels := Six.fill ⟨0, 0, 0, 0, 20000, 0, false⟩
  anyFade := false
  cooling := .stopped
  battery := ⟨0, 0, 2000000, 0, 0⟩
  engine := ⟨0, 30000, 0, 0⟩

/-- The Warning Unit after power-on (R142, R144). -/
def WarningUnit.reset : WarningUnit where
  levels := 0#24
  latched := 0#24
  summaries := ⟨false, false, false, false⟩
  serviceLow := false

/-- The Service port before the load's end (R159, R167). -/
def ServicePort.reset : ServicePort where
  address := 0x52
  inProcess := none
  reply := none
  hold := none
  holdTimer := .stopped
  lastOut := []
  addressAck := false
  dataAck := false

/-- The store of a new part (R165; the regions' contents and marks before the load are DESIGN CHOICE, log 6). -/
def Store.reset : Store where
  phase := .idle
  settingsBad := false
  wearBad := false
  pendingSave := false
  saveTimer := .stopped
  settingsImage := writtenSettings Settings.default
  wearImage := writtenWear WearContents.default

/-- The part after power-on or the RESET input, before the end of the load (R167), with nothing waiting. -/
def State.reset : State where
  key := false
  loaded := false
  quiet := false
  ms := 0
  ports := PerPort.fill PartnerPort.reset
  view := View.reset
  cu := ContractUnit.reset
  gs := Sequencer.reset
  aux := AuxUnit.reset
  blend := BlendUnit.reset
  wear := WearUnit.reset
  warn := WarningUnit.reset
  svc := ServicePort.reset
  settings := Settings.default
  store := Store.reset
  signals := []
  freeCount := 0
  pending := []

end Sys2Proof.Machine
end

