-- ==== Sys2Proof/Machine/Operands.lean ====
section
/-! DEFINITION. Operands as the part holds them: the clamping of chapter 1, the effective figures of R21, and the clamping of
written settings. -/

namespace Sys2Proof.Machine

/-- The nearest value within a range (section 0-6). -/
def clampNat (lo hi n : Nat) : Nat := if n < lo then lo else if hi < n then hi else n

/-- The nearest value within a range (section 0-6). -/
def clampInt (lo hi i : Int) : Int := if i < lo then lo else if hi < i then hi else i

/-! ### Reports (R1 to R6) -/

/-- A traction report as stored: P_min is clamped to its range and then to P_req (R2). -/
def storeTraction (r : TractionReport) : TractionReport where
  v := clampNat 0 300 r.v
  pReq := clampNat 0 1023 r.pReq
  pMin := min (clampNat 0 1023 r.pMin) (clampNat 0 1023 r.pReq)
  giveBack := r.giveBack
  rMot := clampNat 0 1023 r.rMot
  motorTemp := clampInt (-40) 200 r.motorTemp

/-- A pack report as stored (R3). -/
def storePack (r : PackReport) : PackReport where
  soc := clampNat 0 1000 r.soc
  temp := clampInt (-40) 200 r.temp
  pPack := clampInt (-1023) 1023 r.pPack
  aAcc := clampNat 0 1023 r.aAcc

/-- A genset report as stored: an undefined condition becomes FAULT with code 0, and a code is kept with FAULT only (R4). -/
def storeGenset (r : RawGensetReport) : GensetReport :=
  let coolant := clampInt (-40) 200 r.coolant
  match r.condition with
  | 0 => ⟨.stopped, coolant, none⟩
  | 1 => ⟨.cranking, coolant, none⟩
  | 2 => ⟨.running, coolant, none⟩
  | 3 => ⟨.fault, coolant, some r.fault⟩
  | _ => ⟨.fault, coolant, some 0⟩

/-- Whether storing a genset report clamped or mapped a field (R1, R4). -/
def gensetClamped (r : RawGensetReport) : Bool :=
  decide (3 < r.condition) || decide (clampInt (-40) 200 r.coolant ≠ r.coolant)

/-- A brake demand as stored (R5). -/
def storeBrake (r : BrakeDemand) : BrakeDemand where
  d := clampNat 0 600 r.d
  m := clampNat 80 400 r.m
  load1 := clampNat 0 150 r.load1
  load2 := clampNat 0 150 r.load2
  load3 := clampNat 0 150 r.load3
  abs1 := r.abs1
  abs2 := r.abs2
  abs3 := r.abs3
  parking := r.parking

/-- An offer entry as stored: PEAK only in a storage list, its duration then 1 to 600 s, both marks clear (R6, R7). -/
def storeOffer (sup : Supplier) (r : RawOffer) : Offer where
  duration := if r.peak && sup == .pack then some (clampNat 1 600 r.duration) else none
  power := clampNat 0 1023 r.power
  cost := clampNat 0 15 r.cost
  quiet := r.quiet
  excluded := false
  expired := false

/-- Whether storing an entry clamped or converted a field (R1, R6). -/
def offerClamped (sup : Supplier) (r : RawOffer) : Bool :=
  decide (clampNat 0 1023 r.power ≠ r.power) || decide (clampNat 0 15 r.cost ≠ r.cost) ||
    (r.peak && (match sup with | .pack => decide (clampNat 1 600 r.duration ≠ r.duration) | .genset => true))

/-! ### Effective figures (R21) -/

/-- A power or acceptance after the battery derate (R21). -/
def derated (derate kw : Nat) : Nat := kw * (100 - derate) / 100

/-- The entry at an offer index, 1 for the first (R7). -/
def entryAt (list : Option (Place (List Offer))) (index : Nat) : Option Offer :=
  match index with
  | 0 => none
  | i + 1 => list.bind fun p => p.content[i]?

/-! ### Written settings (R162) -/

/-- A written value and whether it was clamped. -/
structure Written where
  value : Int
  clamped : Bool
  deriving DecidableEq, Repr

/-- A value written to an item with a range (R162). -/
def writtenIn (lo hi value : Int) : Written := ⟨clampInt lo hi value, decide (clampInt lo hi value ≠ value)⟩

/-- The blend period: the nearest of 10, 20 and 40 ms, a value midway to the lower (R99). -/
def writtenBlendPeriod (value : Int) : Written :=
  let p : Int := if value ≤ 15 then 10 else if value ≤ 30 then 20 else 40
  ⟨p, decide (p ≠ value)⟩

/-- The silence window: the step of 10 ms at or below the value, within 20 to 500 ms (R156). -/
def writtenSilenceWindow (value : Int) : Written :=
  let w := clampInt 20 500 value / 10 * 10
  ⟨w, decide (w ≠ value)⟩

/-- The edge selection of a number (R139, R161). -/
def Edge.ofInt (i : Int) : Edge := if i ≤ 0 then .rise else if i = 1 then .fall else .both

/-- Settings loaded from the image, each clamped to its range (R167), the region holding one value for each line and each warning. -/
def clampSettings (x : Settings) : Settings :=
  { x with
    activityRise := clampNat 5 100 x.activityRise
    hysteresis := clampNat 0 50 x.hysteresis
    chargeStart := clampNat 0 1000 x.chargeStart
    chargeStop := clampNat 0 1000 x.chargeStop
    criticalMark := clampNat 0 1000 x.criticalMark
    chargeTarget := clampNat 0 1023 x.chargeTarget
    regenCap := clampNat 0 1023 x.regenCap
    window := clampNat 50 1000 x.window
    crank := clampNat 2 15 x.crank
    warm := clampNat 10 600 x.warm
    cooldown := clampNat 5 300 x.cooldown
    quietCooldown := clampNat 1 30 x.quietCooldown
    warmTemp := clampInt 0 120 x.warmTemp
    idleOffCode := clampNat 0 15 x.idleOffCode
    draws := (List.range 8).map fun i => clampNat 0 63 (x.draws.getD i 0)
    blendPeriod := (writtenBlendPeriod x.blendPeriod).value.toNat
    vLo := clampNat 0 300 x.vLo
    vHi := clampNat 0 300 x.vHi
    eta := clampNat 70 100 x.eta
    driveShare := clampNat 0 100 x.driveShare
    hotShare := clampNat 0 100 x.hotShare
    upSlope := clampNat 1 255 x.upSlope
    downSlope := clampNat 1 255 x.downSlope
    catchUp := clampNat 0 1023 x.catchUp
    ambient := clampInt (-40) 200 x.ambient
    restartMargin := clampNat 0 200 x.restartMargin
    warmThreshold := clampNat 0 1023 x.warmThreshold
    hotThreshold := clampNat 0 1023 x.hotThreshold
    fadeThreshold := clampNat 0 1023 x.fadeThreshold
    highRate := clampNat 0 1023 x.highRate
    packHot := clampInt (-40) 200 x.packHot
    edges := (List.range 23).map fun i => x.edges.getD i .rise
    masks := (List.range 23).map fun i => x.masks.getD i 0#5
    padWarn := clampNat 1 7 x.padWarn
    batteryWarn := clampNat 1 7 x.batteryWarn
    engineWarn := clampNat 1 7 x.engineWarn
    silenceWindow := (writtenSilenceWindow x.silenceWindow).value.toNat
    address := clampNat 0 127 x.address
    heatCapacity := x.heatCapacity.map (clampNat 1000 65535) }

/-- The wear image's values, each clamped to its range (R120, R130, R133, R167). -/
def clampWear (x : WearContents) : WearContents where
  padAccount := x.padAccount.map (clampNat 0 4294967295)
  padResidue := x.padResidue.map (clampNat 0 999)
  padLife := x.padLife.map (clampNat 1 65535)
  batteryAccount := clampNat 0 4294967295 x.batteryAccount
  batteryResidue := clampNat 0 999999 x.batteryResidue
  batteryLife := clampNat 1 100000000 x.batteryLife
  engineAccount := clampNat 0 65535 x.engineAccount
  engineLife := clampNat 1 65535 x.engineLife

end Sys2Proof.Machine
end

