-- ==== Sys2Proof/Machine/Flags.lean ====
section
/-! DEFINITION. The comparisons by which the Partner View finds what has changed (R12, R14, R15), and the sets the part holds as
bits. -/

namespace Sys2Proof.Machine

/-- The report a new one is compared with: absent when the place is absent or HELD (R9). -/
def Place.fresh {α : Type} (p : Option (Place α)) : Option α :=
  p.bind fun x => if x.held then none else some x.content

/-- How far two figures lie apart. -/
def apart (a b : Nat) : Nat := if a ≤ b then b - a else a - b

/-- BASIS: P_req or P_min at least the hysteresis, and at least 1 kW, from the reference, or no reference (R12). -/
def basisChanged (hysteresis : Nat) (reference : Option (Nat × Nat)) (r : TractionReport) : Bool :=
  match reference with
  | none => true
  | some (req, min) =>
    decide (max hysteresis 1 ≤ apart r.pReq req) || decide (max hysteresis 1 ≤ apart r.pMin min)

/-- GIVE_BACK (R12). -/
def giveBackChanged (old : Option TractionReport) (r : TractionReport) : Bool :=
  match old with
  | none => true
  | some o => o.giveBack != r.giveBack

/-- ACCEPTANCE (R12). -/
def acceptanceChanged (old : Option PackReport) (r : PackReport) : Bool :=
  match old with
  | none => true
  | some o => o.aAcc != r.aAcc

/-- Two states of charge lie on different sides of a mark (R12). -/
def crosses (mark old new : Nat) : Bool := decide (old < mark) != decide (new < mark)

/-- CHARGE_MARK (R12). -/
def chargeMarkCrossed (start stop : Nat) (old : Option PackReport) (r : PackReport) : Bool :=
  match old with
  | none => true
  | some o => crosses start o.soc r.soc || crosses stop o.soc r.soc

/-- CRITICAL_MARK (R14). -/
def criticalMarkCrossed (mark : Nat) (old : Option PackReport) (r : PackReport) : Bool :=
  match old with
  | none => true
  | some o => crosses mark o.soc r.soc

/-- TRACTION_RISE (R14). -/
def tractionRose (rise : Nat) (old : Option TractionReport) (r : TractionReport) : Bool :=
  match old with
  | none => false
  | some o => decide (o.pReq + rise ≤ r.pReq)

/-- BRAKE_RELEASE (R14). -/
def brakeReleased (old : Option BrakeDemand) (r : BrakeDemand) : Bool :=
  match old with
  | none => false
  | some o => o.d != 0 && r.d == 0

/-- ABS3_SET (R15). -/
def abs3Set (old : Option BrakeDemand) (r : BrakeDemand) : Bool :=
  r.abs3 && (match old with | none => true | some o => !o.abs3)

/-- Set or clear one bit. -/
def setBit {n : Nat} (x : BitVec n) (i : Nat) (on : Bool) : BitVec n :=
  if on then x ||| (1#n <<< i) else x &&& ~~~(1#n <<< i)

/-- A party is a member of a set. -/
def PartySet.has (s : PartySet) : Party → Bool
  | .traction => s.traction | .pack => s.pack | .genset => s.genset

/-- A set with one more party. -/
def PartySet.add (s : PartySet) : Party → PartySet
  | .traction => { s with traction := true }
  | .pack => { s with pack := true }
  | .genset => { s with genset := true }

/-- No party. -/
def PartySet.empty : PartySet := ⟨false, false, false⟩

/-- The set of one party. -/
def PartySet.only (p : Party) : PartySet := PartySet.empty.add p

/-- The parties of one set that are not in another. -/
def PartySet.without (s t : PartySet) : PartySet :=
  ⟨s.traction && !t.traction, s.pack && !t.pack, s.genset && !t.genset⟩

/-- The ports of a set's parties. -/
def PartySet.ports (s : PartySet) : List Port :=
  (if s.traction then [.traction] else []) ++ (if s.pack then [.pack] else []) ++ (if s.genset then [.genset] else [])

/-- A set as an item reads it: Traction, Pack, Genset in bits 0 to 2 (R160, R63). -/
def PartySet.code (s : PartySet) : Int := flag s.traction + 2 * flag s.pack + 4 * flag s.genset

/-- The four latches or masks in bits 0 to 3, in R75's order (R160). -/
def ActivityFlags.code (s : ActivityFlags) : Int :=
  flag s.tractionRise + 2 * flag s.brakeRelease + 4 * flag s.socLow + 8 * flag s.service

def ActivityFlags.add (s : ActivityFlags) : ActivitySource → ActivityFlags
  | .tractionRise => { s with tractionRise := true }
  | .brakeRelease => { s with brakeRelease := true }
  | .socLow => { s with socLow := true }
  | .service => { s with service := true }

/-- The forced-zero causes in bits 0 to 3, in R107's order (R160). -/
def Forced.code (f : Forced) : Int := flag f.noContract + 2 * flag f.brakePort + 4 * flag f.abs3 + 8 * flag f.keyOff

/-- The forced-zero set is not empty (R107). -/
def Forced.any (f : Forced) : Bool := f.noContract || f.brakePort || f.abs3 || f.keyOff

/-- The source's mask is set (R75). -/
def Settings.masked (x : Settings) : ActivitySource → Bool
  | .tractionRise => x.maskTractionRise
  | .brakeRelease => x.maskBrakeRelease
  | .socLow => x.maskSocLow
  | .service => x.maskService

end Sys2Proof.Machine
end

