-- ==== Sys2Proof/Machine/Frames.lean ====
section
/-! DEFINITION. The frames of the ports: the envelope and its checks (section 10-3, R149), the requests read from a payload and
written as one, and the frames the part sends (R152 to R154, R160). -/

namespace Sys2Proof.Machine

/-- The envelope (section 10-3): kind, payload length, payload, CRC-8. -/
def envelope (kind : Nat) (payload : List Byte) : List Byte :=
  let head := BitVec.ofNat 8 kind :: BitVec.ofNat 8 payload.length :: payload
  head ++ [crc8 head]

/-! ### Checking (R149, R160) -/

/-- What the checks of R149 find: the frame's kind and payload, or the class of the first check that fails. `lengthOf` gives
the payload length of a kind that is allowed, and none for any other. -/
def checkFrame (lengthOf : Nat → List Byte → Option Nat) (bytes : List Byte) : Except FrameClass (Nat × List Byte) :=
  match bytes with
  | kind :: len :: rest =>
    let n := len.toNat
    let payload := rest.take n
    if 29 < n || rest.length ≤ n then .error .frameLength
    else if rest.getD n 0#8 != crc8 (kind :: len :: payload) then .error .frameCrc
    else match lengthOf kind.toNat payload with
      | none => .error .wrongKind
      | some want => if n = want then .ok (kind.toNat, payload) else .error .frameLength
  | _ => .error .frameLength

/-- An OFFER_LIST's payload length, from its count byte (section 10-3). -/
def offerListLength (payload : List Byte) : Nat :=
  match payload with
  | [] => 1
  | count :: _ => 1 + 4 * count.toNat

/-- The request kinds allowed on a partner port, with their payload lengths (section 10-3, R149). -/
def partnerLength (p : Port) (kind : Nat) (payload : List Byte) : Option Nat :=
  match kind, p with
  | 0x01, _ => some 0
  | 0x02, _ => some 0
  | 0x10, .traction => some 11
  | 0x11, .pack => some 8
  | 0x12, .genset => some 4
  | 0x13, .brake => some 11
  | 0x14, .pack => some (offerListLength payload)
  | 0x14, .genset => some (offerListLength payload)
  | 0x20, .traction => some 1
  | 0x20, .pack => some 1
  | 0x20, .genset => some 1
  | 0x21, .traction => some 2
  | 0x21, .pack => some 2
  | 0x21, .genset => some 2
  | 0x22, _ => some 2
  | _, _ => none

/-- The request kinds allowed on the Service port, with their payload lengths (R160). -/
def serviceLength (kind : Nat) (_payload : List Byte) : Option Nat :=
  match kind with
  | 0x01 => some 0
  | 0x02 => some 0
  | 0x60 => some 2
  | 0x61 => some 7
  | 0x62 => some 3
  | 0x63 => some 2
  | 0x64 => some 0
  | 0x65 => some 0
  | 0x66 => some 1
  | 0x67 => some 1
  | 0x68 => some 1
  | 0x69 => some 0
  | 0x6A => some 0
  | _ => none

/-! ### Requests of the partners (section 10-3) -/

/-- Offer entries from their bytes, four to an entry (section 10-3). -/
def decodeOffers : List Byte → List RawOffer
  | a :: b :: c :: d :: rest =>
    { power := a.toNat + 256 * (b.toNat % 16)
      duration := b.toNat / 16 + 16 * (c.toNat % 64)
      peak := c.toNat / 64 % 2 == 1
      quiet := c.toNat / 128 == 1
      cost := d.toNat % 32 } :: decodeOffers rest
  | _ => []

/-- An offer entry as its four bytes (section 10-3). -/
def encodeOffer (o : RawOffer) : List Byte :=
  [BitVec.ofNat 8 o.power, BitVec.ofNat 8 (o.power / 256 % 16 + 16 * (o.duration % 16)),
    BitVec.ofNat 8 (o.duration / 16 % 64 + (if o.peak then 64 else 0) + (if o.quiet then 128 else 0)),
    BitVec.ofNat 8 (o.cost % 32)]

/-- The party a port is, where ACCEPT and DECLINE are allowed (R149). -/
def partyOf : Port → Option Party
  | .traction => some .traction | .pack => some .pack | .genset => some .genset | .brake => none

/-- The supplier a port is, where OFFER_LIST is allowed (R149). -/
def supplierOf : Port → Option Supplier
  | .pack => some .pack | .genset => some .genset | _ => none

/-- Bit `i` of a byte. -/
def bit (b : Byte) (i : Nat) : Bool := b.getLsbD i

/-- The request a checked frame of a partner port carries, none for a NOP (section 10-3). -/
def decodePartner (p : Port) (kind : Nat) (payload : List Byte) : Option Instr :=
  match kind, payload with
  | 0x02, _ => some (.statusQuery p)
  | 0x10, [a, b, c, d, e, f, g, h, i, j, k] =>
    some (.tractionReport ⟨nat16 a b, nat16 c d, nat16 e f, bit k 0, nat16 g h, int16 i j⟩)
  | 0x11, [a, b, c, d, e, f, g, h] => some (.packReport ⟨nat16 a b, int16 c d, int16 e f, nat16 g h⟩)
  | 0x12, [a, b, c, d] => some (.gensetReport ⟨a.toNat, int16 b c, d.toNat⟩)
  | 0x13, [a, b, c, d, e, f, g, h, i, j, k] =>
    some (.brakeDemand ⟨nat16 a b, nat16 c d, nat16 e f, nat16 g h, nat16 i j, bit k 0, bit k 1, bit k 2, bit k 3⟩)
  | 0x14, _ :: rest => (supplierOf p).map fun s => .offerList s (decodeOffers rest)
  | 0x20, [n] => (partyOf p).map fun q => .accept q n.toNat
  | 0x21, [n, r] => (partyOf p).map fun q => .decline q n.toNat r.toNat
  | 0x22, [a, b] => some (.yieldPower p (nat16 a b))
  | _, _ => none

/-- A byte of flags, the first in bit 0. -/
def flagByte : List Bool → Nat
  | [] => 0
  | b :: bs => (if b then 1 else 0) + 2 * flagByte bs

/-- A partner's request as its port, kind and payload (section 10-3). -/
def encodePartner : Instr → Option (Port × Nat × List Byte)
  | .statusQuery p => some (p, 0x02, [])
  | .tractionReport r =>
    some (.traction, 0x10, le16 r.v ++ le16 r.pReq ++ le16 r.pMin ++ le16 r.rMot ++ le16s r.motorTemp ++
      [BitVec.ofNat 8 (flagByte [r.giveBack])])
  | .packReport r => some (.pack, 0x11, le16 r.soc ++ le16s r.temp ++ le16s r.pPack ++ le16 r.aAcc)
  | .gensetReport r =>
    some (.genset, 0x12, [BitVec.ofNat 8 r.condition] ++ le16s r.coolant ++ [BitVec.ofNat 8 r.fault])
  | .brakeDemand r =>
    some (.brake, 0x13, le16 r.d ++ le16 r.m ++ le16 r.load1 ++ le16 r.load2 ++ le16 r.load3 ++
      [BitVec.ofNat 8 (flagByte [r.abs1, r.abs2, r.abs3, r.parking])])
  | .offerList s es => some (s.port, 0x14, BitVec.ofNat 8 es.length :: es.flatMap encodeOffer)
  | .accept q n => some (q.port, 0x20, [BitVec.ofNat 8 n])
  | .decline q n r => some (q.port, 0x21, [BitVec.ofNat 8 n, BitVec.ofNat 8 r])
  | .yieldPower p kw => some (p, 0x22, le16 kw)
  | _ => none

/-! ### Requests of the service controller (R160) -/

/-- A WRITE_ITEM as the command its item's owner takes it by: the items with a row of their own, and WRITE_ITEM for the rest
(R161, R162). `value` is the value as the item's kind reads it (R160). -/
def writeCommand (item : Nat) (copy : Bool) (value : Int) : Instr :=
  match item with
  | 0x502 => .writeChargeMark .start value
  | 0x503 => .writeChargeMark .stop value
  | 0x504 => .writeCriticalMark value
  | 0x520 => .writeModeVector .electric value
  | 0x521 => .writeModeVector .hybrid value
  | 0x522 => .writeModeVector .charge value
  | 0x523 => .writeModeVector .safe value
  | 0x554 => .writeFadeThreshold value
  | 0x400 => .writeBatteryAccount value
  | 0x402 => .writeBatteryLife value
  | 0x405 => .writeEngineAccount value
  | 0x406 => .writeEngineLife value
  | 0x5A0 => .writeWarnGrade .pad value
  | 0x5A1 => .writeWarnGrade .battery value
  | 0x5A2 => .writeWarnGrade .engine value
  | 0x5A3 => .writeDeliveryMask .globalMask value
  | n =>
    if 0x528 ≤ n ∧ n ≤ 0x52F then .writeRatedDraw (Fin.ofNat 8 (n - 0x528)) value
    else if 0x530 ≤ n ∧ n ≤ 0x537 then .writePolarity (Fin.ofNat 8 (n - 0x530)) value
    else if 0x580 ≤ n ∧ n ≤ 0x596 then .writeDeliveryMask (.code (n - 0x580 + 1)) value
    else match (if 0x398 ≤ n then Wheel.ofIndex (n - 0x398) else none),
        (if 0x3A8 ≤ n then Wheel.ofIndex (n - 0x3A8) else none),
        (if 0x3B0 ≤ n then Wheel.ofIndex (n - 0x3B0) else none) with
      | some w, _, _ => .writePadAccount w copy value
      | _, some w, _ => .writePadLife w copy value
      | _, _, some w => .writeHeatCapacity w copy value
      | _, _, _ => .writeItem n copy value

/-- The request a checked frame of the Service port carries, none for a NOP (R160). -/
def decodeService (kind : Nat) (payload : List Byte) : Option Instr :=
  match kind, payload with
  | 0x02, _ => some .serviceStatusQuery
  | 0x60, [a, b] => some (if nat16 a b = 0x209 then .activityStatusRead else .readItem (nat16 a b))
  | 0x61, [a, b, c, v0, v1, v2, v3] =>
    let n := nat16 a b
    let value : Int := if unsignedItem n then (nat32 v0 v1 v2 v3 : Int) else int32 v0 v1 v2 v3
    some (writeCommand n (bit c 0) value)
  | 0x62, [a, b, c] => some (.clearWarnings (c ++ b ++ a))
  | 0x63, [a, b] =>
    some (match a.toNat with
      | 6 => .wearResetBattery
      | 7 => .wearResetEngine
      | n => .wearResetPad n (bit b 0))
  | 0x64, _ => some .clearLockout
  | 0x65, _ => some .activity
  | 0x66, [a] => some (.setQuietZone (a != 0#8))
  | 0x67, [a] => some (.portReset a.toNat)
  | 0x68, [a] => some (.tallyClear a.toNat)
  | 0x69, _ => some .drivelineReset
  | 0x6A, _ => some .commit
  | _, _ => none

/-! ### Frames the part sends (section 10-3) -/

/-- Port state codes (section 10-3). -/
def portCode : PortState → Nat
  | .down => 0 | .up => 1 | .lost => 2

def Gate.code : Gate → Nat
  | .blocked => 0 | .opened => 1 | .safe => 2

/-- Mode codes (section 10-3). -/
def modeCode : Mode → Nat
  | .electric => 0 | .hybrid => 1 | .charge => 2 | .safe => 3

def DropReason.code : DropReason → Nat
  | .tractionLost => 0 | .packLost => 1 | .supplyBelowAux => 2 | .noStorageOffer => 3
  | .belowMinimum => 4 | .noGiveBack => 5 | .keyOff => 6 | .drivelineReset => 7

def GensetState.code : GensetState → Nat
  | .unknown => 0 | .stopped => 1 | .cranking => 2 | .resting => 3
  | .warming => 4 | .online => 5 | .cooldown => 6 | .lockedOut => 7

def RefusalReason.code : RefusalReason → Nat
  | .badCount => 1 | .notOpen => 2 | .notSource => 3 | .unknownItem => 4 | .readOnly => 5 | .busy => 6

def FrameClass.code : FrameClass → Nat
  | .frameCrc => 0 | .frameLength => 1 | .wrongKind => 2

def GensetCommand.code : GensetCommand → Nat
  | .start => 0 | .stop => 1 | .cooldown => 2 | .operate => 3

/-- The reason bits of OFFER, ACTIVE and REVISED notices (section 10-3). -/
def mismatchBits : Option Mismatch → Nat
  | none => 0 | some .shortSupply => 1 | some .belowMinimum => 2

/-- The contract notice payload of a contract or proposal (section 10-3). -/
def contractPayload (number : Nat) (t : Terms) : List Byte :=
  [BitVec.ofNat 8 number] ++ le16 t.basisReq ++ le16 t.basisMin ++ le16 t.grant ++
    [BitVec.ofNat 8 (t.storageIndex % 16 + 16 * t.gensetIndex.getD 0)] ++
    le16 t.share ++ le16 t.commitment ++ le16 t.aux ++ le16 t.charge ++ le16 t.ceiling ++
    [BitVec.ofNat 8 (modeCode t.mode % 4 + (if t.mismatch.isSome then 4 else 0) + (if t.reduced then 8 else 0) +
      (if t.peak.isSome then 16 else 0) + 32 * mismatchBits t.mismatch)] ++
    le16 (t.peak.getD 0)

/-- The payload of a WITHDRAWN or DROPPED notice: number and reason, every other field 0 (section 10-3). -/
def endingPayload (number reason : Nat) : List Byte :=
  [BitVec.ofNat 8 number] ++ List.replicate 17 0#8 ++ [BitVec.ofNat 8 (32 * reason), 0#8, 0#8]

def frictionPayload (c : FrictionCopy) : List Byte :=
  le16 c.dFriction ++ le16 c.friction ++ le16 c.axle1 ++ le16 c.axle2 ++ le16 c.axle3

/-- A notice's frame (section 10-3). -/
def Notice.frame : Notice → List Byte
  | .contractOffer n t => envelope 0x40 (contractPayload n t)
  | .contractActive n t => envelope 0x41 (contractPayload n t)
  | .contractRevised n t => envelope 0x42 (contractPayload n t)
  | .contractWithdrawn n => envelope 0x43 (endingPayload n 0)
  | .contractDropped n r => envelope 0x44 (endingPayload n r.code)
  | .regenCommand r d => envelope 0x50 (le16 r ++ le16 d)
  | .frictionCommand c => envelope 0x51 (frictionPayload c)
  | .gensetCommand c i kw => envelope 0x52 ([BitVec.ofNat 8 c.code, BitVec.ofNat 8 (i.getD 0)] ++ le16 kw)
  | .warning code set =>
    envelope 0x58 [BitVec.ofNat 8 code, set.extractLsb' 0 8, set.extractLsb' 8 8, set.extractLsb' 16 8]

/-- A notice's class (R153). -/
def Notice.cls : Notice → NoticeClass
  | .contractOffer _ _ => .contract
  | .contractActive _ _ => .contract
  | .contractRevised _ _ => .contract
  | .contractWithdrawn _ => .contract
  | .contractDropped _ _ => .contract
  | .regenCommand _ _ => .command
  | .frictionCommand _ => .command
  | .gensetCommand _ _ _ => .command
  | .warning _ _ => .warning

def Answer.code : Answer → Nat
  | .done => 0 | .refused _ => 1 | .stale => 2 | .status => 3

def Answer.reasonCode : Answer → Nat
  | .refused r => r.code
  | _ => 0

/-- A reply's frame, with the OVERRUN flag it carries (R151, R152). -/
def Reply.frame (overrun : Bool) : Reply → List Byte
  | .answer kind outcome clamped content =>
    envelope (kind + 0x80)
      ([BitVec.ofNat 8 outcome.code, BitVec.ofNat 8 outcome.reasonCode, BitVec.ofNat 8 (flagByte [clamped, overrun])] ++ content)
  | .frameError cls => envelope 0x7E [BitVec.ofNat 8 cls.code, BitVec.ofNat 8 (flagByte [false, overrun])]

/-- An IDLE frame (R154). -/
def idleFrame (p : PortState) (g : Gate) : List Byte := envelope 0x7F [BitVec.ofNat 8 (portCode p), BitVec.ofNat 8 g.code]

/-- The NOT_READY frame of the Service port (R159). -/
def notReadyFrame : List Byte := envelope 0x7D []

/-- What `n` clocked bytes carry of a frame: its bytes in order, then 0x00 (R148). -/
def clocked (frame : List Byte) (n : Nat) : List Byte := (frame ++ List.replicate n 0#8).take n

end Sys2Proof.Machine
end

