-- ==== Sys2Proof/Machine/Ops.lean ====
section
/-! DEFINITION. The operations the units share: the clock and timers, raising and taking signals, the notice queues and reply
slots of the partner ports, and the replies of the Service port. -/

namespace Sys2Proof.Machine

/-! ### Clock and timers (sections 0-6, 1-5.1) -/

/-- The millisecond count wraps after 2^32 ms (section 1-5.1). -/
def wrapMs : Nat := 4294967296

/-- The interval from an earlier count to a later one, taken across the wrap (section 1-5.1). -/
def elapsed (now earlier : Nat) : Nat := (now + (wrapMs - earlier % wrapMs)) % wrapMs

/-- The timer runs (section 0-6). -/
def Timer.isRunning : Timer → Bool
  | .stopped => false
  | .running _ => true
  | .endless => true

/-- The timer runs and has nothing left. -/
def Timer.due : Timer → Bool
  | .running 0 => true
  | _ => false

/-- One millisecond. -/
def Timer.tick : Timer → Timer
  | .running (n + 1) => .running n
  | t => t

/-- A duration in seconds. -/
def Timer.seconds (n : Nat) : Timer := .running (1000 * n)

/-- The remaining time of an item in ms: a timer that is stopped, or never expires, has none (R161; log 17). -/
def Timer.remaining : Timer → Int
  | .stopped => -1
  | .running n => num n
  | .endless => -1

/-! ### Signals (log 1, 3) -/

/-- A unit raises a signal for another: it joins those not yet taken. -/
def State.raise (s : State) (c : Instr) : State := { s with signals := s.signals ++ [c] }

/-- A raised signal is taken: the oldest equal one leaves those waiting. A command that names a signal nobody raised takes
nothing away. -/
def State.consume (s : State) (c : Instr) : State := { s with signals := s.signals.erase c }

/-- Raise a signal when a condition holds. -/
def State.raiseIf (s : State) (b : Bool) (c : Instr) : State := if b then s.raise c else s

/-- Levels handed to the Warning Unit as one event, when there are any (R122, R140). -/
def State.handLevels (s : State) (levels : List OwnerLevel) : State :=
  if levels.isEmpty then s else s.raise (.conditionLevelChange levels)

/-! ### Partner ports -/

/-- The port's record. -/
def State.port (s : State) (p : Port) : PartnerPort := s.ports.get p

/-- Change one port's record. -/
def State.onPort (s : State) (p : Port) (f : PartnerPort → PartnerPort) : State :=
  { s with ports := s.ports.set p (f (s.ports.get p)) }

/-- The port is UP (R156). -/
def State.isUp (s : State) (p : Port) : Bool := (s.port p).state == .up

/-- The reply slot is empty: no reply, and reserved for no request (R150). -/
def PartnerPort.slotEmpty (pp : PartnerPort) : Bool := pp.slot == .empty

/-- The attention line is low while the slot holds a reply or the queue is not empty (R155). -/
def PartnerPort.attentionLow (pp : PartnerPort) : Bool :=
  (match pp.slot with | .reply _ => true | _ => false) || !pp.queue.isEmpty

/-- A port in this state takes notices of this class (R153): an UP port all, a LOST port CONTRACT notices, a DOWN port none. -/
def admits : PortState → NoticeClass → Bool
  | .up, _ => true
  | .lost, .contract => true
  | .lost, .command => false
  | .lost, .warning => false
  | .down, _ => false

/-- A notice joins the queue: in place of the one of its class, or at the tail (R153). -/
def enqueue (queue : List Notice) (n : Notice) : List Notice :=
  if queue.any (fun x => x.cls == n.cls) then queue.map (fun x => if x.cls == n.cls then n else x) else queue ++ [n]

/-- A notice submitted to a port (R153). One that replaces the notice being clocked out marks the exchange (R154). -/
def PartnerPort.submit (pp : PartnerPort) (n : Notice) : PartnerPort :=
  if admits pp.state n.cls then
    { pp with
      queue := enqueue pp.queue n
      exchange := pp.exchange.map fun x => if x.source == .notice n.cls then { x with intact := false } else x }
  else pp

/-- Submit a notice to a port. -/
def State.submit (s : State) (p : Port) (n : Notice) : State := s.onPort p fun pp => pp.submit n

/-- Submit a notice to several ports. -/
def State.notify (s : State) (ps : List Port) (n : Notice) : State := ps.foldl (fun t p => t.submit p n) s

/-- Place a reply (R150). It goes to the slot its request reserved; a request that comes straight from the queue with the slot
empty is taken and answered at once (log 5); the reply to a request taken before a PORT_RESET is discarded. -/
def PartnerPort.place (pp : PartnerPort) (request : Instr) (r : Reply) : PartnerPort :=
  if pp.slot = .reserved request then { pp with slot := .reply r }
  else if pp.orphan = some request then { pp with orphan := none }
  else if pp.slot = .empty then { pp with slot := .reply r }
  else pp

/-- Place the reply to a partner's request (R150, R152). -/
def State.answer (s : State) (p : Port) (request : Instr) (kind : Nat) (outcome : Answer) (clamped : Bool)
    (content : List Byte := []) : State :=
  s.onPort p fun pp => pp.place request (.answer kind outcome clamped content)

/-- Empty the notice queue (R153); an exchange that is clocking one of its notices out removes nothing (R154). -/
def PartnerPort.emptyQueue (pp : PartnerPort) : PartnerPort :=
  { pp with
    queue := []
    exchange := pp.exchange.map fun x =>
      match x.source with
      | .notice _ => { x with intact := false }
      | .idle => x
      | .reply => x }

/-- Empty the reply slot of its reply, keeping a request in process (R157). -/
def PartnerPort.emptyReply (pp : PartnerPort) : PartnerPort :=
  { pp with
    slot := (match pp.slot with | .reply _ => .empty | x => x)
    exchange := pp.exchange.map fun x => if x.source == .reply then { x with intact := false } else x }

/-- Hand a change of a port's state to the blocks that act on it (R157). -/
def State.portChanged (s : State) (p : Port) (was now : PortState) : State :=
  let s := s.raiseIf (now != PortState.up) (.portStateView p now)
  let s := match p with
    | .traction => s.raise (.portStateContract p now)
    | .pack => s.raise (.portStateContract p now)
    | .genset => s.raiseIf (now != PortState.up) (.portStateContract p now)
    | .brake => s
  let s := s.raiseIf ((p == Port.genset || p == Port.brake) && was == PortState.down && now == PortState.up) (.latePortUpNotice p)
  let s := s.raiseIf (p == Port.genset) (.portStateSequencer now)
  let s := s.raiseIf (p == Port.brake || (p == Port.traction && now == PortState.up)) (.portStateBlend p now)
  s.raise (.conditionLevelChange [.portLost p (now == PortState.lost)])

/-! ### The Service port -/

/-- Place a reply on the Service port (R159, R160). A read that waits with the clock held is served at once, and removes the
reply if it takes every byte. A reply to another request than the one in process is not placed (log 20). -/
def ServicePort.place (v : ServicePort) (request : Instr) (r : Reply) : ServicePort :=
  if v.inProcess = none ∨ v.inProcess = some request then
    match v.hold with
    | none => { v with inProcess := none, reply := some r }
    | some n =>
      { v with
        inProcess := none
        reply := if (r.frame false).length ≤ n then none else some r
        hold := none
        holdTimer := .stopped
        lastOut := clocked (r.frame false) n }
  else v

/-- Place the reply to a service request. -/
def State.serviceAnswer (s : State) (request : Instr) (kind : Nat) (outcome : Answer) (clamped : Bool := false)
    (content : List Byte := []) : State :=
  { s with svc := s.svc.place request (.answer kind outcome clamped content) }

/-- The reply to a service command (R163). -/
def State.serviceDone (s : State) (request : Instr) (kind : Nat) : State := s.serviceAnswer request kind .done

/-- The reply to a WRITE_ITEM (R162). -/
def State.writeDone (s : State) (request : Instr) (clamped : Bool) : State := s.serviceAnswer request 0x61 .done clamped

end Sys2Proof.Machine
end

