-- ==== Sys2Proof/Machine/View.lean ====
section
/-! DEFINITION. The Partner View (chapter 1): taking reports and offer lists, and the port states it acts on. -/

namespace Sys2Proof.Machine

/-- A new record for a place, FRESH, arrived now (R9). -/
def State.arrive {α : Type} (s : State) (content : α) : Place α := ⟨content, s.ms, false⟩

/-- Mark a place HELD (R9). -/
def Place.hold {α : Type} (p : Option (Place α)) : Option (Place α) := p.map fun x => { x with held := true }

/-- TRACTION_REPORT (R1, R2, R9, R12, R14). -/
def execTractionReport (r : TractionReport) (s : State) : Host.Outcome State Fault Refusal :=
  let new := storeTraction r
  let old := Place.fresh s.view.traction
  let changes : ChangeSet :=
    { ChangeSet.none with
      basis := basisChanged s.settings.hysteresis s.view.reference new
      giveBack := giveBackChanged old new }
  let rise := tractionRose s.settings.activityRise old new
  let s := { s with view := { s.view with traction := some (s.arrive new) } }
  let s := s.answer .traction (.tractionReport r) 0x10 .done (decide (new ≠ r))
  let s := s.raise (.arrivalNotice .traction changes)
  .next (s.raiseIf rise (.activitySignal .tractionRise))

/-- The interval of the battery hand-off (R16). -/
def packInterval (now : Nat) (old : Option (Place PackReport)) : Nat :=
  match old with
  | none => 0
  | some p => if p.held then 0 else min 500 (elapsed now p.arrival)

/-- PACK_REPORT (R1, R3, R9, R12, R14, R16). -/
def execPackReport (r : PackReport) (s : State) : Host.Outcome State Fault Refusal :=
  let new := storePack r
  let old := Place.fresh s.view.pack
  let dt := packInterval s.ms s.view.pack
  let changes : ChangeSet :=
    { ChangeSet.none with
      acceptance := acceptanceChanged old new
      chargeMark := chargeMarkCrossed s.settings.chargeStart s.settings.chargeStop old new }
  let critical := criticalMarkCrossed s.settings.criticalMark old new
  let s := { s with view := { s.view with pack := some (s.arrive new) } }
  let s := s.answer .pack (.packReport r) 0x11 .done (decide (new ≠ r))
  let s := s.raise (.arrivalNotice .pack changes)
  let s := s.raiseIf critical .criticalMarkSignal
  .next (s.raise (.packHandOff new.pPack new.temp dt))

/-- GENSET_REPORT (R1, R4, R9, R14). -/
def execGensetReport (r : RawGensetReport) (s : State) : Host.Outcome State Fault Refusal :=
  let new := storeGenset r
  let s := { s with view := { s.view with genset := some (s.arrive new) } }
  let s := s.answer .genset (.gensetReport r) 0x12 .done (gensetClamped r)
  .next (s.raise (.gensetReportSignal new.condition new.coolant new.fault))

/-- BRAKE_DEMAND (R1, R5, R9, R14, R15). -/
def execBrakeDemand (r : BrakeDemand) (s : State) : Host.Outcome State Fault Refusal :=
  let new := storeBrake r
  let old := Place.fresh s.view.brake
  let s := { s with view := { s.view with brake := some (s.arrive new) } }
  let s := s.answer .brake (.brakeDemand r) 0x13 .done (decide (new ≠ r))
  let s := s.raiseIf (brakeReleased old new) (.activitySignal .brakeRelease)
  .next (s.raiseIf (abs3Set old new) .blendImmediateRun)

/-- A list of lawful count replaces the whole list held (R7), and is the list the indices now speak of (R8). -/
def State.storeOffers (s : State) (sup : Supplier) (entries : List RawOffer) : State :=
  let place := s.arrive (entries.map (storeOffer sup))
  match sup with
  | .pack => { s with view := { s.view with storage := some place, storageSerial := s.view.storageSerial + 1 } }
  | .genset => { s with view := { s.view with gensetList := some place, gensetSerial := s.view.gensetSerial + 1 } }

/-- The arrival notice's kind for a list (R12). -/
def listKind : Supplier → ArrivalKind
  | .pack => .storageList
  | .genset => .gensetList

/-- OFFER_LIST (R1, R6, R7, R9, R12). -/
def execOfferList (sup : Supplier) (entries : List RawOffer) (s : State) : Host.Outcome State Fault Refusal :=
  if 1 ≤ entries.length ∧ entries.length ≤ 6 then
    let s := s.storeOffers sup entries
    let s := s.answer sup.port (.offerList sup entries) 0x14 .done (entries.any (offerClamped sup))
    .next (s.raise (.arrivalNotice (listKind sup) { ChangeSet.none with offers := true }))
  else .next (s.answer sup.port (.offerList sup entries) 0x14 (.refused .badCount) false)

/-- The report place of a port becomes HELD (R9); an offer list is kept as it is. -/
def View.holdPort (v : View) : Port → View
  | .traction => { v with traction := Place.hold v.traction }
  | .pack => { v with pack := Place.hold v.pack }
  | .genset => { v with genset := Place.hold v.genset }
  | .brake => { v with brake := Place.hold v.brake }

/-- The places of a port become absent, and with the Traction port the traction reference (R10, R13, R17). -/
def View.clearPort (v : View) : Port → View
  | .traction => { v with traction := none, reference := none }
  | .pack => { v with pack := none, storage := none }
  | .genset => { v with genset := none, gensetList := none }
  | .brake => { v with brake := none }

/-- PORT_STATE_VIEW (R9, R10, R17). -/
def execPortStateView (p : Port) (now : PortState) (s : State) : Host.Outcome State Fault Refusal :=
  let s := s.consume (.portStateView p now)
  match now with
  | .up => .next s
  | .lost => .next { s with view := s.view.holdPort p }
  | .down => .next { s with view := s.view.clearPort p }

/-! ### Marks (R8) -/

/-- Change the entry at an offer index of a list. -/
def onEntry (list : Option (Place (List Offer))) (index : Nat) (f : Offer → Offer) : Option (Place (List Offer)) :=
  match index with
  | 0 => list
  | i + 1 => list.map fun p => { p with content := p.content.modify i f }

/-- The exclusion mark on a storage entry, if the list a proposal spoke of is still held (R8). -/
def View.excludeStorage (v : View) (index serial : Nat) : View :=
  if serial = v.storageSerial then { v with storage := onEntry v.storage index fun o => { o with excluded := true } } else v

/-- The exclusion mark on a genset entry, if the list a proposal spoke of is still held (R8). -/
def View.excludeGenset (v : View) (index : Option Nat) (serial : Nat) : View :=
  match index with
  | none => v
  | some i =>
    if serial = v.gensetSerial then { v with gensetList := onEntry v.gensetList i fun o => { o with excluded := true } }
    else v

/-- The expiry mark on a PEAK storage entry, if the list held when the timer started is still held (R8, R58). -/
def View.expireStorage (v : View) (index serial : Nat) : View :=
  if serial = v.storageSerial then
    { v with storage := onEntry v.storage index fun o => if o.duration.isSome then { o with expired := true } else o }
  else v

/-- Every exclusion mark of a list cleared (R8). -/
def clearExclusions (list : Option (Place (List Offer))) : Option (Place (List Offer)) :=
  list.map fun p => { p with content := p.content.map fun o => { o with excluded := false } }

/-- Every exclusion mark of both lists cleared (R8, R45, R62). -/
def View.clearExclusions (v : View) : View :=
  { v with storage := Machine.clearExclusions v.storage, gensetList := Machine.clearExclusions v.gensetList }

end Sys2Proof.Machine
end

