-- ==== Sys2Proof/Machine/Selection.lean ====
section
/-! DEFINITION. Offer selection (chapter 2): the inputs of a run, the candidates and their ranking, the terms formed, the two
passes, and genset wanted. -/

namespace Sys2Proof.Machine

/-! ### Inputs (R20) -/

/-- The traction report the Contract Unit reads; one that is absent is a free value (R20; log 10). -/
def State.tractionIn (s : State) : TractionReport :=
  match s.view.traction with
  | some p => p.content
  | none => storeTraction (Config.absentTraction s.freeCount)

/-- The pack report the Contract Unit reads; one that is absent is a free value (R20; log 10). -/
def State.packIn (s : State) : PackReport :=
  match s.view.pack with
  | some p => p.content
  | none => storePack (Config.absentPack s.freeCount)

/-- Free values that were read are not read again. -/
def State.usedInputs (s : State) : State :=
  if s.view.traction.isSome && s.view.pack.isSome then s else { s with freeCount := s.freeCount + 1 }

/-- The battery derate, percent (R132). -/
def State.derate (s : State) : Nat := s.wear.battery.derate

/-- The effective acceptance (R21). -/
def State.acceptance (s : State) : Nat := derated s.derate s.packIn.aAcc

/-- The effective power of the storage offer at an index, as the list now stands; with no entry there, 0 (R21; log 11). -/
def State.effAt (s : State) (index : Nat) : Nat :=
  match entryAt s.view.storage index with
  | some o => derated s.derate o.power
  | none => 0

/-- The power of the genset offer at an index, as the list now stands; with no entry there, 0 (log 11). -/
def State.gensetAt (s : State) (index : Nat) : Nat :=
  match entryAt s.view.gensetList index with
  | some o => o.power
  | none => 0

/-- What one run reads, once (R20). -/
structure Inputs where
  req : Nat
  minimum : Nat
  acceptance : Nat
  storage : List Offer
  genset : List Offer
  online : Bool
  quiet : Bool
  need : Bool
  target : Nat
  derate : Nat
  penalty : Nat
  aux : PerMode Nat
  cap : Nat
  deriving DecidableEq, Repr

/-- The entries of a list; none of a list that is absent (R20). -/
def entries (list : Option (Place (List Offer))) : List Offer :=
  match list with
  | some p => p.content
  | none => []

/-- The inputs as they stand (R20). -/
def State.inputs (s : State) : Inputs where
  req := s.tractionIn.pReq
  minimum := s.tractionIn.pMin
  acceptance := s.acceptance
  storage := entries s.view.storage
  genset := entries s.view.gensetList
  online := s.gs.state == .online
  quiet := s.quiet
  need := s.cu.chargeNeed
  target := s.settings.chargeTarget
  derate := s.derate
  penalty := s.wear.engine.penalty
  aux := s.aux.allowances
  cap := s.settings.regenCap

/-- The regeneration ceiling (R30). -/
def regenCeiling (acceptance cap charge : Nat) : Nat := min acceptance cap - charge

/-! ### Usable offers (R22, R23) -/

/-- A storage offer is usable, its exclusion mark left aside (R22, R50). -/
def Offer.standsIn (o : Offer) (quiet : Bool) : Bool := !o.expired && (!quiet || o.quiet)

/-- A storage offer is usable (R22). -/
def Offer.usableStorage (o : Offer) (quiet : Bool) : Bool := !o.excluded && o.standsIn quiet

/-- A genset offer is usable but for the genset state (R23, R35). -/
def Offer.usableGenset (o : Offer) (quiet : Bool) : Bool := !o.excluded && (!quiet || o.quiet)

/-- The entries of a list that pass a test, each with its offer index, counted on from `n` (R7). -/
def indexed (keep : Offer → Bool) : Nat → List Offer → List (Nat × Offer)
  | _, [] => []
  | n, o :: os => if keep o then (n, o) :: indexed keep (n + 1) os else indexed keep (n + 1) os

/-- The cost of a genset offer in selection (R23). -/
def gensetCost (penalty : Nat) (o : Offer) : Nat := min 15 (o.cost + penalty)

/-! ### Candidates (R26, R27) -/

/-- A candidate. `gensetIndex` and `gPower` are none and 0 with no genset offer. -/
structure Candidate where
  storageIndex : Nat
  eff : Nat
  duration : Option Nat
  gensetIndex : Option Nat
  gPower : Nat
  mode : Mode
  aux : Nat
  share : Nat
  commitment : Nat
  charge : Nat
  covered : Bool
  cost : Nat
  deriving DecidableEq, Repr

/-- The charge target of a run (R25). -/
def Inputs.chargeTarget (x : Inputs) : Nat := if x.need then min x.target x.acceptance else 0

/-- The mode of a candidate (R26). -/
def candidateMode (req : Nat) (genset : Bool) : Mode := if genset then (if req = 0 then .charge else .hybrid) else .electric

/-- The candidate of a storage offer with no genset offer (R26, R27). -/
def Inputs.alone (x : Inputs) (i : Nat) (o : Offer) : Candidate :=
  let demand := x.req + x.aux.electric
  let eff := derated x.derate o.power
  { storageIndex := i, eff := eff, duration := o.duration, gensetIndex := none, gPower := 0, mode := .electric,
    aux := x.aux.electric, share := demand, commitment := 0, charge := 0, covered := decide (demand ≤ eff),
    cost := if demand = 0 then 0 else o.cost }

/-- The candidate of a storage offer with a genset offer (R26, R27). -/
def Inputs.paired (x : Inputs) (i : Nat) (o : Offer) (j : Nat) (g : Offer) : Candidate :=
  let mode := candidateMode x.req true
  let aux := x.aux.get mode
  let demand := x.req + aux
  let eff := derated x.derate o.power
  let charge := if demand ≤ g.power then min x.chargeTarget (g.power - demand) else 0
  let share := demand - g.power
  { storageIndex := i, eff := eff, duration := o.duration, gensetIndex := some j, gPower := g.power, mode := mode,
    aux := aux, share := share, commitment := if demand ≤ g.power then demand + charge else g.power, charge := charge,
    covered := decide (share ≤ eff), cost := gensetCost x.penalty g + (if share = 0 then 0 else o.cost) }

/-- The candidates of a run, with the genset offers usable when the genset is ONLINE, or in any state (R26, R35). One whose
commitment would be 0 is not formed. -/
def Inputs.candidates (x : Inputs) (online : Bool) : List Candidate :=
  let storage := indexed (fun o => o.usableStorage x.quiet) 1 x.storage
  let genset := if online then indexed (fun o => o.usableGenset x.quiet) 1 x.genset else []
  storage.flatMap fun (i, o) =>
    x.alone i o :: ((genset.map fun (j, g) => x.paired i o j g).filter fun c => c.commitment != 0)

/-! ### Ranking (R28) -/

/-- The sum eff(s) + G. -/
def Candidate.sum (c : Candidate) : Nat := c.eff + c.gPower

/-- The keys of R28, each the smaller first. -/
def Candidate.keys (need : Bool) (c : Candidate) : List Int :=
  [if need then -(num c.charge) else 0, num c.cost, flag c.gensetIndex.isSome, num c.sum, num c.storageIndex,
    num (c.gensetIndex.getD 0)]

/-- One list of keys comes before another. -/
def lexBefore : List Int → List Int → Bool
  | a :: as, b :: bs => if a < b then true else if b < a then false else lexBefore as bs
  | _, _ => false

/-- The first candidate in the order of these keys; among equals the earlier. -/
def bestBy (keys : Candidate → List Int) : List Candidate → Option Candidate
  | [] => none
  | c :: cs =>
    match bestBy keys cs with
    | none => some c
    | some d => if lexBefore (keys d) (keys c) then some d else some c

/-! ### Terms (R29, R31) -/

/-- The terms of a covered winner (R29, R30). -/
def Inputs.coveredTerms (x : Inputs) (c : Candidate) : Terms where
  basisReq := x.req
  basisMin := x.minimum
  grant := x.req
  storageIndex := c.storageIndex
  share := c.share
  gensetIndex := c.gensetIndex
  commitment := c.commitment
  aux := c.aux
  charge := c.charge
  ceiling := regenCeiling x.acceptance x.cap c.charge
  mode := c.mode
  mismatch := none
  reduced := false
  peak := c.duration

/-- The terms of a candidate that does not cover the demand (R31). -/
def Inputs.shortTerms (x : Inputs) (c : Candidate) : Terms :=
  let grant := min x.req (c.sum - c.aux)
  let demand := grant + c.aux
  { basisReq := x.req
    basisMin := x.minimum
    grant := grant
    storageIndex := c.storageIndex
    share := demand - c.gPower
    gensetIndex := c.gensetIndex
    commitment := min c.gPower demand
    aux := c.aux
    charge := 0
    ceiling := regenCeiling x.acceptance x.cap 0
    mode := c.mode
    mismatch := some (if grant < x.minimum then .belowMinimum else .shortSupply)
    reduced := false
    peak := c.duration }

/-- What a pass finds: its counts, and the terms formed or why there are none (R32, R34). -/
structure Pass where
  formed : Nat
  covered : Nat
  result : Except SelectionReason Terms

/-- A pass over these candidates (R28, R31, R32). -/
def Inputs.choose (x : Inputs) (cands : List Candidate) : Except SelectionReason Terms :=
  match bestBy (Candidate.keys x.need) (cands.filter (·.covered)) with
  | some c => .ok (x.coveredTerms c)
  | none =>
    match bestBy (fun c => -(num c.sum) :: c.keys x.need) (cands.filter fun c => decide (c.aux ≤ c.sum)) with
    | some c => .ok (x.shortTerms c)
    | none => .error (if cands.isEmpty then .noStorageOffer else .supplyBelowAux)

/-- The first pass, or with `online` forced the second (R35). -/
def Inputs.pass (x : Inputs) (online : Bool) : Pass :=
  let cands := x.candidates online
  ⟨cands.length, (cands.filter (·.covered)).length, x.choose cands⟩

/-! ### Genset wanted (R35) -/

/-- Whether the second pass, or the charge need, calls for the genset (R35). -/
def Inputs.wants (x : Inputs) : Bool :=
  x.need || (match (x.pass true).result with | .ok t => t.gensetIndex.isSome | .error _ => false)

/-- Genset wanted brought to a level; a change reaches the Genset Sequencer as an event (R35, R36), with the cause it is
raised for (R64). -/
def State.setWanted (s : State) (wanted : Bool) : State :=
  if s.cu.gensetWanted = wanted then s
  else
    ({ s with cu := { s.cu with gensetWanted := wanted } }).raise
      (.gensetWantedChange wanted (if s.cu.chargeNeed then .charge else .demand))

/-- Genset wanted evaluated alone (R35). -/
def State.evaluateWanted (s : State) : State := (s.setWanted s.inputs.wants).usedInputs

/-! ### A run (R20, R33, R34) -/

/-- The outcome of a run (R20). -/
inductive RunOutcome where
  | propose (terms : Terms)
  | same
  | none (reason : SelectionReason)

/-- The reason the last-selection record gives for terms (R34). -/
def mismatchReason : Option Mismatch → Option SelectionReason
  | none => none
  | some .shortSupply => some .shortSupply
  | some .belowMinimum => some .belowMinimum

/-- The outcome of what the first pass found, against the active contract (R33). -/
def outcomeOf (active : Option Contract) : Except SelectionReason Terms → RunOutcome
  | .error r => .none r
  | .ok t =>
    match active with
    | none => .propose t
    | some c => if c.terms = t then .same else .propose t

/-- The last-selection record of a run (R34). -/
def recordOf (p : Pass) : RunOutcome → LastSelection
  | .none r => ⟨.noTerms, some r, none, none, p.formed, p.covered⟩
  | .propose t => ⟨.propose, mismatchReason t.mismatch, some t.storageIndex, t.gensetIndex, p.formed, p.covered⟩
  | .same =>
    match p.result with
    | .ok t => ⟨.same, mismatchReason t.mismatch, some t.storageIndex, t.gensetIndex, p.formed, p.covered⟩
    | .error _ => ⟨.same, none, none, none, p.formed, p.covered⟩

/-- The outcome of a run made now (R20, R33). -/
def State.runOutcome (s : State) : RunOutcome := outcomeOf s.cu.active (s.inputs.pass s.inputs.online).result

/-- What a run leaves behind: the last-selection record, the traction reference while no contract is active (R13), and genset
wanted (R35). -/
def State.runRecords (s : State) : State :=
  let x := s.inputs
  let s' := { s with
    cu := { s.cu with lastSelection := recordOf (x.pass x.online) s.runOutcome }
    view := if s.cu.active.isNone then { s.view with reference := some (x.req, x.minimum) } else s.view }
  (s'.setWanted x.wants).usedInputs

end Sys2Proof.Machine
end

