-- ==== Sys2Proof/Machine/Warnings.lean ====
section
/-! DEFINITION. The Warning Unit (chapter 9): levels, latches, delivery, the service attention line and the summaries. -/

namespace Sys2Proof.Machine

/-- A level change matches an edge selection (R141). -/
def Edge.hits (e : Edge) (rising : Bool) : Bool :=
  match e with
  | .rise => rising
  | .fall => !rising
  | .both => true

/-- The codes, as bits, whose delivery mask holds this bit (R139, R143). -/
def maskedCodes (which : Nat) : Nat → List (BitVec 5) → BitVec 24
  | _, [] => 0#24
  | i, m :: ms => setBit (maskedCodes which (i + 1) ms) i (m.getLsbD which)

/-- A port's place in a delivery mask (R161). -/
def maskBit : Port → Nat := Port.index

/-- The summaries of a set of latches (R145): WHEEL codes 1 to 12, POWERTRAIN 13 to 17, LINK 18 to 21, STORE 22 and 23. -/
def summariesOf (latched : BitVec 24) : Summaries where
  wheel := latched &&& 0x000FFF#24 != 0#24
  powertrain := latched &&& 0x01F000#24 != 0#24
  link := latched &&& 0x1E0000#24 != 0#24
  store := latched &&& 0x600000#24 != 0#24

/-- The level of the service attention line (R144): low while the global mask is clear and a latched warning has service in
its mask. -/
def serviceLineLow (x : Settings) (latched : BitVec 24) : Bool :=
  !x.globalMask && latched &&& maskedCodes 4 0 x.masks != 0#24

/-- The summaries and the service attention line recomputed (R144, R145). -/
def State.refreshWarnings (s : State) : State :=
  { s with warn := { s.warn with
      summaries := summariesOf s.warn.latched
      serviceLow := serviceLineLow s.settings s.warn.latched } }

/-- The WARNING notices of a latch (R143): to each UP port in the warning's mask, with the latched warnings whose masks
include that port. -/
def State.deliver (s : State) (code : Nat) : State :=
  if s.settings.globalMask then s
  else
    Port.all.foldl (fun t p =>
      if (s.settings.masks.getD (code - 1) 0#5).getLsbD (maskBit p) && t.isUp p then
        t.submit p (.warning code (t.warn.latched &&& maskedCodes (maskBit p) 0 t.settings.masks))
      else t) s

/-- A condition's level reaches the table (R140, R141). -/
def State.setLevel (s : State) (code : Nat) (level : Bool) : State :=
  if s.warn.levels.getLsbD (code - 1) = level then s
  else
    let s := { s with warn := { s.warn with levels := setBit s.warn.levels (code - 1) level } }
    if (s.settings.edges.getD (code - 1) .rise).hits level && !s.warn.latched.getLsbD (code - 1) then
      let s := { s with warn := { s.warn with latched := setBit s.warn.latched (code - 1) true } }
      (s.deliver code).refreshWarnings
    else s

/-- The code a condition belongs to, and its level (R139): a grade is compared with the warn grade then set (R140). -/
def OwnerLevel.condition (x : Settings) : OwnerLevel → Nat × Bool
  | .padGrade w g => (1 + w.index, decide (x.padWarn ≤ g))
  | .fade w on => (7 + w.index, on)
  | .batteryGrade g => (13, decide (x.batteryWarn ≤ g))
  | .engineGrade g => (14, decide (x.engineWarn ≤ g))
  | .gensetLockout on => (15, on)
  | .mismatch on => (16, on)
  | .safeState on => (17, on)
  | .portLost p on => (18 + p.index, on)
  | .settingsBad on => (22, on)
  | .wearBad on => (23, on)

/-- The levels of one owner event, each entry in turn (R140), in the order its owner lists them (log 36). -/
def State.takeLevels (s : State) (levels : List OwnerLevel) : State :=
  levels.foldl (fun t l => t.setLevel (OwnerLevel.condition t.settings l).1 (OwnerLevel.condition t.settings l).2) s

/-- CONDITION_LEVEL_CHANGE (R140, R141). The Warning Unit takes no owner event until the load has ended (R142). -/
def execConditionLevelChange (levels : List OwnerLevel) (s : State) : Host.Outcome State Fault Refusal :=
  let s := s.consume (.conditionLevelChange levels)
  if s.loaded then .next (s.takeLevels levels) else .next s

/-- A contract is active and its mismatch flag is set (R139). -/
def ContractUnit.inMismatch (c : ContractUnit) : Bool :=
  match c.active with
  | none => false
  | some a => a.terms.mismatch.isSome

/-- Every condition as it stands (R142), in the order of the codes. -/
def State.allLevels (s : State) : List OwnerLevel :=
  Wheel.all.map (fun w => .padGrade w (s.wear.wheels.get w).grade) ++
    Wheel.all.map (fun w => .fade w (s.wear.wheels.get w).fade) ++
    [.batteryGrade s.wear.battery.grade, .engineGrade s.wear.engine.grade,
      .gensetLockout (s.gs.state == .lockedOut), .mismatch s.cu.inMismatch, .safeState (s.cu.gate == .safe)] ++
    Port.all.map (fun p => .portLost p ((s.port p).state == .lost)) ++
    [.settingsBad s.store.settingsBad, .wearBad s.store.wearBad]

/-- CLEAR_WARNINGS (R146, R163): a code outside 1 to 23 refuses the whole request. -/
def execClearWarnings (codes : BitVec 24) (s : State) : Host.Outcome State Fault Refusal :=
  if codes.getLsbD 23 then .next (s.serviceAnswer (.clearWarnings codes) 0x62 (.refused .unknownItem))
  else
    let s := { s with warn := { s.warn with latched := s.warn.latched &&& ~~~codes } }
    .next (s.refreshWarnings.serviceDone (.clearWarnings codes) 0x62)

/-- The warnings of a kind re-formed against a new warn grade (R140): from the grades the Wear Unit holds at the write, whether or not
the event that hands one of them has been taken (log 37). -/
def State.reform (s : State) : WarnGradeKind → State
  | .pad => s.takeLevels (Wheel.all.map fun w => .padGrade w (s.wear.wheels.get w).grade)
  | .battery => s.takeLevels [.batteryGrade s.wear.battery.grade]
  | .engine => s.takeLevels [.engineGrade s.wear.engine.grade]

/-- The settings with a warn grade. -/
def Settings.withWarnGrade (x : Settings) (kind : WarnGradeKind) (g : Nat) : Settings :=
  match kind with
  | .pad => { x with padWarn := g }
  | .battery => { x with batteryWarn := g }
  | .engine => { x with engineWarn := g }

/-- A warn grade written (R139, R140). -/
def State.writeWarnGradeOp (s : State) (kind : WarnGradeKind) (value : Int) : State :=
  let w := writtenIn 1 7 value
  ({ s with settings := s.settings.withWarnGrade kind w.value.toNat }).reform kind

/-- WRITE_WARN_GRADE (R139, R140, R162). -/
def execWriteWarnGrade (kind : WarnGradeKind) (value : Int) (s : State) : Host.Outcome State Fault Refusal :=
  .next ((s.writeWarnGradeOp kind value).writeDone (.writeWarnGrade kind value) (writtenIn 1 7 value).clamped)

/-- A delivery mask written: five bits for a warning's own, a flag for the global one (R139, R144). -/
def State.writeMaskOp (s : State) (target : MaskTarget) (value : Int) : State :=
  match target with
  | .code c =>
    ({ s with settings := { s.settings with masks := s.settings.masks.set (c - 1) (BitVec.ofInt 5 value) } }).refreshWarnings
  | .globalMask =>
    ({ s with settings := { s.settings with globalMask := decide ((writtenIn 0 1 value).value = 1) } }).refreshWarnings

/-- Whether a mask write was clamped: only the global mask has a range (R162; log 17). -/
def maskClamped (target : MaskTarget) (value : Int) : Bool :=
  match target with
  | .code _ => false
  | .globalMask => (writtenIn 0 1 value).clamped

/-- WRITE_DELIVERY_MASK (R144, R147, R162). -/
def execWriteDeliveryMask (target : MaskTarget) (value : Int) (s : State) : Host.Outcome State Fault Refusal :=
  .next ((s.writeMaskOp target value).writeDone (.writeDeliveryMask target value) (maskClamped target value))

end Sys2Proof.Machine
end

