-- ==== Sys2Proof/Machine/Contract.lean ====
section
/-! DEFINITION. The contract protocol (chapter 3): the gate, rounds and proposals, activation, revision, imposed reduction and
drops, and the commands of the Contract Unit. -/

namespace Sys2Proof.Machine

/-- Change what the Contract Unit holds. -/
def State.onCu (s : State) (f : ContractUnit → ContractUnit) : State := { s with cu := f s.cu }

/-- Write the traction reference (R13). -/
def State.setReference (s : State) (r : Option (Nat × Nat)) : State := { s with view := { s.view with reference := r } }

/-- The gate is OPEN. -/
def State.isOpen (s : State) : Bool := s.cu.gate == .opened

/-- A commitment handed to the Genset Sequencer (R45, R53, R56, R60). -/
def State.handCommitment (s : State) (t : Terms) : State := s.raise (.commitmentHanded t.commitment t.gensetIndex)

/-- The changes of the mismatch condition and of the SAFE gate since they stood so, handed to the Warning Unit as one event, the
mismatch first (R139, R140; log 36). -/
def State.levelsFrom (s : State) (mismatch : Bool) (gate : Gate) : State :=
  s.handLevels
    ((if s.cu.inMismatch = mismatch then [] else [.mismatch s.cu.inMismatch]) ++
      (if (s.cu.gate == Gate.safe) = (gate == Gate.safe) then [] else [.safeState (s.cu.gate == Gate.safe)]))

/-- CONTRACT_ACTIVE or CONTRACT_REVISED to some ports with every field of the active contract. -/
def State.sendContract (s : State) (ports : List Port) (f : Nat → Terms → Notice) : State :=
  match s.cu.active with
  | none => s
  | some c => s.notify ports (f c.number c.terms)

/-! ### Drops (R60) -/

/-- The gate after a drop (R60). -/
def DropReason.gate : DropReason → Gate
  | .keyOff => .blocked
  | .drivelineReset => .blocked
  | .tractionLost => .safe
  | .packLost => .safe
  | .supplyBelowAux => .safe
  | .noStorageOffer => .safe
  | .belowMinimum => .safe
  | .noGiveBack => .safe

/-- The number of the active contract, or 0 (R60). -/
def ContractUnit.activeNumber (c : ContractUnit) : Nat :=
  match c.active with
  | none => 0
  | some a => a.number

/-- What a drop leaves in the Contract Unit (R38, R60, R63). -/
def ContractUnit.dropped (c : ContractUnit) (reason : DropReason) : ContractUnit :=
  { c with
    gate := reason.gate
    sinceTraction := if reason.gate = .safe then false else c.sinceTraction
    sincePack := if reason.gate = .safe then false else c.sincePack
    active := none
    proposal := none
    round := .idle
    settled := false
    window := .stopped
    rest := .stopped
    peak := .stopped
    lastDrop := some ⟨reason, c.activeNumber⟩ }

/-- A drop (R13, R36, R60). The commitment of the contract discarded, if there was one, is handed on as 0 (log 29). -/
def State.drop (s : State) (reason : DropReason) : State :=
  let s' := (s.onCu fun c => c.dropped reason).setReference none
  let s' := s'.notify Port.all (.contractDropped s.cu.activeNumber reason)
  let s' := s'.setWanted false
  let s' := s'.raiseIf s.cu.active.isSome (.commitmentHanded 0 none)
  let s' := s'.raise .blendImmediateRun
  let s' := s'.raise .modeDerivation
  s'.levelsFrom s.cu.inMismatch s.cu.gate

/-! ### Proposals and rounds (R41 to R43, R47, R50) -/

/-- The count after one advance, from 255 to 1 (R41). -/
def advance (n : Nat) : Nat := if n < 255 then n + 1 else 1

/-- The number of the next proposal, passing over the active contract's (R41). -/
def ContractUnit.nextNumber (c : ContractUnit) : Nat :=
  let n := advance c.counter
  match c.active with
  | none => n
  | some a => if n = a.number then advance n else n

/-- The required parties of terms (R43). -/
def requiredOf (t : Terms) : PartySet := ⟨true, true, t.gensetIndex.isSome⟩

/-- Terms become the pending proposal, the round's `count`th (R41, R43). -/
def State.propose (s : State) (count : Nat) (t : Terms) : State :=
  let n := s.cu.nextNumber
  let p : Proposal := ⟨n, t, requiredOf t, PartySet.empty, s.view.storageSerial, s.view.gensetSerial⟩
  let s := s.onCu fun c =>
    { c with counter := n, proposal := some p, round := .inRound count, window := .running s.settings.window }
  s.notify p.required.ports (.contractOffer n t)

/-- The active contract's storage offer is still usable, its exclusion mark left aside (R50). With no entry at its index there
is none to use (log 11). -/
def State.activeOfferStands (s : State) (c : Contract) : Bool :=
  match entryAt s.view.storage c.terms.storageIndex with
  | none => false
  | some o => o.standsIn s.quiet

/-- The drop reason of a NONE outcome (R50). -/
def dropReasonOf : SelectionReason → DropReason
  | .supplyBelowAux => .supplyBelowAux
  | .noStorageOffer => .noStorageOffer
  | .shortSupply => .noStorageOffer
  | .belowMinimum => .noStorageOffer

/-- The round is over with no contract active (R47): RESTING for 500 ms. -/
def ContractUnit.resting (c : ContractUnit) : ContractUnit :=
  { c with proposal := none, window := .stopped, round := .resting, rest := .running 500, settled := false }

/-- The round is over with a contract active (R47). -/
def ContractUnit.settledIdle (c : ContractUnit) : ContractUnit :=
  { c with proposal := none, window := .stopped, round := .idle }

/-- A NONE outcome (R50): rest, keep the active contract, or drop it; true when the round ended with the contract kept. -/
def State.noneOutcome (s : State) (reason : SelectionReason) : State × Bool :=
  match s.cu.active with
  | none => (s.onCu ContractUnit.resting, false)
  | some c =>
    if s.activeOfferStands c then (s.onCu ContractUnit.settledIdle, true) else (s.drop (dropReasonOf reason), false)

/-- A run taken while the round state is IDLE and the reselect-when-settled flag clear (R42). -/
def State.runClear (s : State) : State :=
  let outcome := s.runOutcome
  let s := s.runRecords
  match outcome with
  | .propose t => s.propose 1 t
  | .same => s
  | .none r => (s.noneOutcome r).1

/-- The flag acted on once (R52): a round that ended with a contract active takes a run if the flag is set. -/
def State.actOnFlag (s : State) : State :=
  if s.cu.settled then (s.onCu fun c => { c with settled := false }).runClear else s

/-- A run taken while the round state is IDLE (R42, R47, R50). -/
def State.runIdle (s : State) : State :=
  let outcome := s.runOutcome
  let s := s.runRecords
  match outcome with
  | .propose t => s.propose 1 t
  | .same => s
  | .none r =>
    let e := s.noneOutcome r
    if e.2 then e.1.actOnFlag else e.1

/-- The round ends without activation (R47). -/
def State.endRound (s : State) : State :=
  match s.cu.active with
  | none => s.onCu ContractUnit.resting
  | some _ => (s.onCu ContractUnit.settledIdle).actOnFlag

/-- A run taken within a round whose `count`th proposal has been discarded (R46). -/
def State.runInRound (s : State) (count : Nat) : State :=
  let outcome := s.runOutcome
  let s := s.runRecords
  match outcome with
  | .propose t => s.propose (count + 1) t
  | .same => s.endRound
  | .none r =>
    let e := s.noneOutcome r
    if e.2 then e.1.actOnFlag else e.1

/-- A reselection trigger (R39, R52). -/
def State.trigger (s : State) : State :=
  if s.isOpen then
    match s.cu.round with
    | .idle => s.runIdle
    | .resting => s.evaluateWanted
    | .inRound _ => (s.onCu fun c => { c with settled := true }).evaluateWanted
  else s

/-- The pending proposal is withdrawn (R54); the round state passes to IDLE. -/
def State.withdraw (s : State) : State :=
  match s.cu.proposal with
  | none => s
  | some p =>
    (s.onCu fun c => { c with proposal := none, window := .stopped, round := .idle }).notify p.required.ports
      (.contractWithdrawn p.number)

/-! ### The gate (R37, R38) -/

/-- The gate becomes OPEN: a trigger taken at once (R37, R38). -/
def State.openGate (s : State) : State :=
  let s' := s.onCu fun c => { c with gate := .opened }
  ((s'.raise .modeDerivation).levelsFrom s.cu.inMismatch s.cu.gate).trigger

/-- The Traction and Pack ports are both UP (R37, R38). -/
def State.essentialsUp (s : State) : Bool := s.isUp .traction && s.isUp .pack

/-- What a BLOCKED gate needs to open (R37). -/
def State.mayOpen (s : State) : Bool :=
  s.key && s.essentialsUp && s.view.traction.isSome && s.view.pack.isSome && s.view.storage.isSome

/-- The test of the gate (R37, R38). SAFE is left on R38's own conditions: a PORT_RESET may meanwhile have made a report absent
again, which the note of R20 does not allow for (log 33). -/
def State.testGate (s : State) : State :=
  match s.cu.gate with
  | .opened => s
  | .blocked => if s.mayOpen then s.openGate else s
  | .safe => if s.essentialsUp && s.cu.sinceTraction && s.cu.sincePack then s.openGate else s

/-! ### Revision and reduction (R53, R55, R56) -/

/-- A charge allowance brought down to the effective acceptance, and the commitment with it (R45, R53); the ceiling recomputed
by R30. -/
def Terms.refit (t : Terms) (acceptance cap : Nat) : Terms :=
  let charge := min t.charge acceptance
  let commitment := t.commitment - (t.charge - charge)
  { t with
    charge := charge
    commitment := commitment
    gensetIndex := if charge < t.charge ∧ commitment = 0 then none else t.gensetIndex
    ceiling := regenCeiling acceptance cap charge }

/-- The active contract's terms replaced. -/
def State.setTerms (s : State) (c : Contract) (t : Terms) : State := s.onCu fun u => { u with active := some { c with terms := t } }

/-- The active contract revised for a change of the effective acceptance (R53; log 24). -/
def State.revise (s : State) : State :=
  match s.cu.active with
  | none => s
  | some c =>
    let t := c.terms.refit s.acceptance s.settings.regenCap
    let s := s.usedInputs
    if t.ceiling = c.terms.ceiling ∧ t.charge = c.terms.charge then s
    else
      let s := (s.setTerms c t).setReference (some (t.basisReq, t.basisMin))
      let s := s.sendContract (if t.charge = c.terms.charge then [.traction, .brake] else Port.all) .contractRevised
      let s := if t.charge = c.terms.charge then s else s.handCommitment t
      s.raiseIf (decide (t.ceiling < c.terms.ceiling)) .blendImmediateRun

/-- What an imposed reduction makes of terms: the terms, or the reason to drop (R56). -/
def Terms.reduce (t : Terms) (sAvail gAvail acceptance cap : Nat) (giveBack : Bool) : Except DropReason Terms :=
  let need := t.grant + t.aux
  let g := min t.commitment (min gAvail need)
  let cut := { t with
    charge := 0
    gensetIndex := if g = 0 then none else t.gensetIndex
    commitment := g
    reduced := true
    ceiling := regenCeiling acceptance cap 0 }
  if need ≤ sAvail + g then .ok { cut with share := need - g }
  else if sAvail + g < t.aux then .error .supplyBelowAux
  else
    let grant := sAvail + g - t.aux
    if grant < t.basisMin then .error .belowMinimum
    else if grant < t.grant ∧ giveBack = false then .error .noGiveBack
    else .ok { cut with grant := grant, share := sAvail }

/-- An imposed reduction of the active contract, its terms as `t` (R56): the contract as it stands, or as R58 has changed it. -/
def State.reduceTo (s : State) (c : Contract) (t : Terms) (sAvail gAvail : Nat) : State :=
  match t.reduce sAvail gAvail s.acceptance s.settings.regenCap s.tractionIn.giveBack with
  | .error reason => s.usedInputs.drop reason
  | .ok u =>
    let s := s.usedInputs
    let s := (s.setTerms c u).setReference (some (u.basisReq, u.basisMin))
    let s := s.sendContract Port.all .contractRevised
    let s :=
      if u.commitment = c.terms.commitment ∧ u.gensetIndex = c.terms.gensetIndex then s else s.handCommitment u
    s.raiseIf (decide (u.ceiling < c.terms.ceiling)) .blendImmediateRun

/-- An imposed reduction of the active contract, if there is one and the event's condition holds of it (R55). -/
def State.reduceIf (s : State) (condition : Terms → Bool) (sAvail gAvail : Terms → Nat) : State :=
  match s.cu.active with
  | none => s
  | some c => if condition c.terms then s.reduceTo c c.terms (sAvail c.terms) (gAvail c.terms) else s

/-! ### The peak expiry timer (R48, R58) -/

/-- The peak expiry timer at an activation (R48). -/
def State.peakAtActivation (s : State) (replaced : Option Contract) (t : Terms) : State :=
  match t.peak with
  | none => s.onCu fun c => { c with peak := .stopped }
  | some d =>
    let continues := s.cu.peak.isRunning && s.cu.peakSerial == s.view.storageSerial &&
      (match replaced with | none => false | some r => r.terms.storageIndex == t.storageIndex)
    if continues then s
    else s.onCu fun c => { c with peak := Timer.seconds d, peakSerial := s.view.storageSerial }

/-- The active contract's peak expiry set afresh from a new storage list (R48). -/
def State.refreshPeak (s : State) : State :=
  match s.cu.active with
  | none => s
  | some c =>
    let duration := (entryAt s.view.storage c.terms.storageIndex).bind (·.duration)
    let s := s.onCu fun u =>
      match duration with
      | some d => { u with peak := Timer.seconds d, peakSerial := s.view.storageSerial }
      | none => { u with peak := .stopped }
    if duration = c.terms.peak then s
    else (s.setTerms c { c.terms with peak := duration }).sendContract Port.all .contractRevised

/-! ### Activation (R45) -/

/-- The Blend Unit is told of an activation (R45). -/
def tellsBlend (replaced : Option Contract) (t : Terms) : Bool :=
  match replaced with
  | none => true
  | some r => decide (t.ceiling + t.aux < r.terms.ceiling + r.terms.aux)

/-- The Genset Sequencer is handed the commitment of an activation (R45). -/
def tellsGenset (replaced : Option Contract) (t : Terms) : Bool :=
  match replaced with
  | none => decide (t.commitment ≠ 0)
  | some r => decide (t.commitment ≠ r.terms.commitment) || decide (t.gensetIndex ≠ r.terms.gensetIndex)

/-- The activation of a proposal, up to the end of its round (R45). -/
def State.enact (s : State) (p : Proposal) : State :=
  let replaced := s.cu.active
  let was := s.cu.inMismatch
  let t := p.terms.refit s.acceptance s.settings.regenCap
  let s := s.usedInputs
  let s := s.onCu fun c =>
    { c with active := some ⟨p.number, t⟩, proposal := none, window := .stopped, round := .idle }
  let s := { s with view := s.view.clearExclusions }
  let s := s.setReference (some (t.basisReq, t.basisMin))
  let s := s.peakAtActivation replaced t
  let s := s.sendContract Port.all .contractActive
  let s := if tellsGenset replaced t then s.handCommitment t else s
  let s := s.raiseIf (tellsBlend replaced t) .blendImmediateRun
  (s.raise .modeDerivation).levelsFrom was s.cu.gate

/-- The activation of a proposal (R45). -/
def State.activate (s : State) (p : Proposal) : State := (s.enact p).actOnFlag

/-! ### Answers of the parties (R44, R46, R49) -/

/-- ACCEPT (R39, R44, R45). -/
def execAccept (party : Party) (number : Nat) (s : State) : Host.Outcome State Fault Refusal :=
  let reply := fun (t : State) (o : Answer) => t.answer party.port (.accept party number) 0x20 o false
  if !s.isOpen then .next (reply s (.refused .notOpen))
  else
    match s.cu.proposal with
    | none => .next (reply s .stale)
    | some p =>
      if p.number ≠ number ∨ p.required.has party = false then .next (reply s .stale)
      else
        let q := { p with accepted := p.accepted.add party }
        let s := reply (s.onCu fun c => { c with proposal := some q }) .done
        if p.accepted.has party then .next s
        else if q.required.without q.accepted = PartySet.empty then .next (s.activate q) else .next s

/-- A proposal discarded as declined by these parties (R46, R49): withdrawn from the told parties, recorded, and its offers
marked. -/
def State.discard (s : State) (p : Proposal) (by_ : PartySet) (reason : DeclineReason) : State :=
  let s := s.onCu fun c => { c with proposal := none, window := .stopped, lastDecline := some ⟨by_, reason, p.number⟩ }
  let s := s.notify p.required.ports (.contractWithdrawn p.number)
  let v := if by_.pack then s.view.excludeStorage p.terms.storageIndex p.storageSerial else s.view
  { s with view := if by_.genset then v.excludeGenset p.terms.gensetIndex p.gensetSerial else v }

/-- What follows a discarded proposal (R46, R47, R49). -/
def State.continueRound (s : State) (traction : Bool) : State :=
  if traction then s.endRound
  else
    match s.cu.round with
    | .inRound n => if 3 ≤ n then s.endRound else s.runInRound n
    | .idle => s.endRound
    | .resting => s.endRound

/-- The reason a DECLINE carries (R46). -/
def declineReason : Nat → DeclineReason
  | 0 => .overLimit
  | 1 => .notReady
  | 2 => .thermal
  | _ => .other

/-- DECLINE (R39, R46). A reason above 3 is taken as OTHER, and the reply carries CLAMPED (log 18). -/
def execDecline (party : Party) (number reason : Nat) (s : State) : Host.Outcome State Fault Refusal :=
  let reply := fun (t : State) (o : Answer) =>
    t.answer party.port (.decline party number reason) 0x21 o (decide (3 < reason))
  if !s.isOpen then .next (reply s (.refused .notOpen))
  else
    match s.cu.proposal with
    | none => .next (reply s .stale)
    | some p =>
      if p.number ≠ number ∨ p.required.has party = false then .next (reply s .stale)
      else
        let s := (reply s .done).discard p (PartySet.only party) (declineReason reason)
        .next (s.continueRound (party == .traction))

/-- ACCEPTANCE_WINDOW_EXPIRY (R49). -/
def execAcceptanceWindowExpiry (s : State) : Host.Outcome State Fault Refusal :=
  if s.cu.window.isRunning then
    match s.cu.proposal with
    | none => .next (s.onCu fun c => { c with window := .stopped })
    | some p =>
      let missing := p.required.without p.accepted
      .next ((s.discard p missing .timeout).continueRound missing.traction)
  else .next s

/-- ROUND_REST_EXPIRY (R47). -/
def execRoundRestExpiry (s : State) : Host.Outcome State Fault Refusal :=
  if s.cu.rest.isRunning then
    .next (s.onCu fun c => { c with rest := .stopped, round := .idle }).trigger
  else .next s

/-! ### Yield and peak expiry (R57, R58) -/

/-- The effective power of a storage yield (R55). -/
def State.yielded (s : State) (t : Terms) (kw : Nat) : Nat := min (s.effAt t.storageIndex) (derated s.derate kw)

/-- A YIELD from a supplier, of a clamped power, while the gate is OPEN (R54 to R57). -/
def State.takeYield (s : State) (sup : Supplier) (kw : Nat) : State :=
  if s.cu.active.isNone && s.cu.proposal.isNone then s
  else
    let s := s.withdraw
    let s := match sup with
      | .pack => s.reduceIf (fun _ => true) (fun t => s.yielded t kw) (fun t => t.commitment)
      | .genset => s.reduceIf (fun t => t.gensetIndex.isSome) (fun t => s.effAt t.storageIndex) (fun _ => kw)
    s.trigger

/-- YIELD (R1, R39, R57). -/
def execYieldPower (p : Port) (kw : Nat) (s : State) : Host.Outcome State Fault Refusal :=
  let power := clampNat 0 1023 kw
  match supplierOf p with
  | none => .next (s.answer p (.yieldPower p kw) 0x22 (.refused .notSource) false)
  | some sup =>
    if s.isOpen then .next ((s.answer p (.yieldPower p kw) 0x22 .done (decide (power ≠ kw))).takeYield sup power)
    else .next (s.answer p (.yieldPower p kw) 0x22 (.refused .notOpen) false)

/-- The storage entry a contract moves to at a peak expiry (R58): CONTINUOUS and usable, of greatest effective power, then
lower cost, then lower index. -/
def bestContinuous (derate : Nat) : List (Nat × Offer) → Option (Nat × Offer)
  | [] => none
  | e :: es =>
    match bestContinuous derate es with
    | none => some e
    | some f =>
      if derated derate e.2.power < derated derate f.2.power then some f
      else if derated derate f.2.power < derated derate e.2.power then some e
      else if f.2.cost < e.2.cost then some f else some e

/-- The CONTINUOUS entries a peak expiry looks among (R58). -/
def State.continuousOffers (s : State) : List (Nat × Offer) :=
  indexed (fun o => o.duration.isNone && o.usableStorage s.quiet) 1 (entries s.view.storage)

/-- The reduction at a peak expiry (R58). -/
def State.reduceAtPeak (s : State) : State :=
  match s.cu.active with
  | none => s
  | some c =>
    match bestContinuous s.derate s.continuousOffers with
    | some (i, o) =>
      s.reduceTo c { c.terms with peak := none, storageIndex := i } (derated s.derate o.power) c.terms.commitment
    | none => s.reduceTo c { c.terms with peak := none } 0 c.terms.commitment

/-- The expiry mark on the active contract's entry (R8, R58). -/
def State.markExpired (s : State) : State :=
  match s.cu.active with
  | none => s
  | some c => { s with view := s.view.expireStorage c.terms.storageIndex s.cu.peakSerial }

/-- PEAK_EXPIRY (R58). -/
def execPeakExpiry (s : State) : Host.Outcome State Fault Refusal :=
  if s.cu.peak.isRunning then
    .next ((s.onCu fun c => { c with peak := .stopped }).markExpired.withdraw.reduceAtPeak).trigger
  else .next s

/-! ### Charge need (R24) -/

/-- The charge need after an evaluation (R24). -/
def chargeNeedAfter (start stop soc : Nat) (need : Bool) : Bool :=
  if soc < start then true else if stop ≤ soc then false else need

/-- The charge need evaluated against the stored pack report; with none there is nothing to evaluate (R24). Its becoming set is
the activity source SOC_LOW (R75). -/
def State.evaluateNeed (s : State) : State :=
  match s.view.pack with
  | none => s
  | some p =>
    let need := chargeNeedAfter s.settings.chargeStart s.settings.chargeStop p.content.soc s.cu.chargeNeed
    let was := s.cu.chargeNeed
    (s.onCu fun c => { c with chargeNeed := need }).raiseIf (need && !was) (.activitySignal .socLow)

/-- A trigger if the charge need has changed (R24). -/
def State.triggerIf (s : State) (b : Bool) : State := if b then s.trigger else s

/-- The settings with a charge mark. -/
def Settings.withChargeMark (x : Settings) (mark : ChargeMark) (v : Nat) : Settings :=
  match mark with
  | .start => { x with chargeStart := v }
  | .stop => { x with chargeStop := v }

/-- A charge mark written; a changed one evaluates the charge need (R24). -/
def State.writeChargeMarkOp (s : State) (mark : ChargeMark) (value : Int) : State :=
  let s' := { s with settings := s.settings.withChargeMark mark (writtenIn 0 1000 value).value.toNat }
  if s'.settings = s.settings then s
  else s'.evaluateNeed.triggerIf (s'.evaluateNeed.cu.chargeNeed != s.cu.chargeNeed)

/-- WRITE_CHARGE_MARK (R24, R162). -/
def execWriteChargeMark (mark : ChargeMark) (value : Int) (s : State) : Host.Outcome State Fault Refusal :=
  .next ((s.writeChargeMarkOp mark value).writeDone (.writeChargeMark mark value) (writtenIn 0 1000 value).clamped)

/-! ### Signals from the other units -/

/-- An arrival notice sets the since-drop flag of its kind (R38). -/
def State.noteArrival (s : State) (kind : ArrivalKind) : State :=
  match kind with
  | .traction => s.onCu fun c => { c with sinceTraction := true }
  | .pack => s.onCu fun c => { c with sincePack := true }
  | .storageList => s
  | .gensetList => s

/-- A list taken while the gate is OPEN, up to its trigger (R48, R54, R55). -/
def State.takeList (s : State) (sup : Supplier) : State :=
  match sup with
  | .pack =>
    let s := s.withdraw
    (s.reduceIf (fun t => decide (s.effAt t.storageIndex < t.share) || (entryAt s.view.storage t.storageIndex).isNone)
      (fun t => s.effAt t.storageIndex) (fun t => t.commitment)).refreshPeak
  | .genset =>
    let names := match s.cu.proposal with | some p => p.required.genset | none => false
    let s := if names then s.withdraw else s
    let power := fun (t : Terms) => s.gensetAt (t.gensetIndex.getD 0)
    s.reduceIf
      (fun t => t.gensetIndex.isSome &&
        (decide (power t < t.commitment) || (entryAt s.view.gensetList (t.gensetIndex.getD 0)).isNone))
      (fun t => s.effAt t.storageIndex) power

/-- What an OPEN gate makes of an arrival notice (R51, R53 to R55). -/
def State.takeChanges (s : State) (kind : ArrivalKind) (changes : ChangeSet) (needChanged : Bool) : State :=
  let s := if changes.acceptance then s.revise else s
  let s :=
    if changes.offers then
      match kind with
      | .storageList => s.takeList .pack
      | .gensetList => s.takeList .genset
      | .traction => s
      | .pack => s
    else s
  s.triggerIf (changes.basis || changes.giveBack || changes.offers || needChanged)

/-- ARRIVAL_NOTICE (R12, R24, R37, R38, R51, R53): the charge need first; then, as the gate stood, its test or what the changes
call for (log 12). -/
def execArrivalNotice (kind : ArrivalKind) (changes : ChangeSet) (s : State) : Host.Outcome State Fault Refusal :=
  let was := s.cu.chargeNeed
  let s := (s.consume (.arrivalNotice kind changes)).noteArrival kind
  let s := if changes.chargeMark then s.evaluateNeed else s
  if s.isOpen then .next (s.takeChanges kind changes (s.cu.chargeNeed != was)) else .next s.testGate

/-- The Genset port becomes LOST or DOWN while its party is required: a decline with reason LOST (R59). -/
def State.declineLost (s : State) : State :=
  match s.cu.proposal with
  | none => s
  | some p =>
    if s.isOpen && p.required.genset then (s.discard p (PartySet.only .genset) .lost).continueRound false else s

/-- PORT_STATE_CONTRACT (R37, R38, R59). -/
def execPortStateContract (p : Port) (now : PortState) (s : State) : Host.Outcome State Fault Refusal :=
  let s := s.consume (.portStateContract p now)
  let gone := now != PortState.up
  match p with
  | .traction => .next (if gone && s.isOpen then s.drop .tractionLost else s.testGate)
  | .pack => .next (if gone && s.isOpen then s.drop .packLost else s.testGate)
  | .genset => .next (if gone then s.declineLost else s)
  | .brake => .next s

/-- LATE_PORT_UP_NOTICE (R168). -/
def execLatePortUpNotice (p : Port) (s : State) : Host.Outcome State Fault Refusal :=
  let s := s.consume (.latePortUpNotice p)
  if s.isOpen && (p == Port.genset || p == Port.brake) then .next (s.sendContract [p] .contractActive) else .next s

/-- GENSET_ENTERS_ONLINE (R51). -/
def execGensetEntersOnline (s : State) : Host.Outcome State Fault Refusal :=
  .next (s.consume .gensetEntersOnline).trigger

/-- What an OPEN gate makes of the genset's leaving ONLINE, up to the trigger (R54, R55). -/
def State.takeLeaving (s : State) : State :=
  let names := match s.cu.proposal with | some p => p.terms.gensetIndex.isSome | none => false
  let s := if names then s.withdraw else s
  s.reduceIf (fun t => t.gensetIndex.isSome) (fun t => s.effAt t.storageIndex) (fun _ => 0)

/-- GENSET_LEAVES_ONLINE (R51, R54, R55). -/
def execGensetLeavesOnline (s : State) : Host.Outcome State Fault Refusal :=
  let s := s.consume .gensetLeavesOnline
  if s.isOpen then .next s.takeLeaving.trigger else .next s

/-- What an OPEN gate makes of a change of the battery derate, up to the trigger (R53 to R55; log 13). -/
def State.takeDerate (s : State) : State :=
  let s := s.revise
  let short := match s.cu.proposal with | some p => decide (s.effAt p.terms.storageIndex < p.terms.share) | none => false
  let s := if short then s.withdraw else s
  s.reduceIf (fun t => decide (s.effAt t.storageIndex < t.share)) (fun t => s.effAt t.storageIndex) (fun t => t.commitment)

/-- DERATE_CHANGE (R51, R53 to R55). -/
def execDerateChange (s : State) : Host.Outcome State Fault Refusal :=
  let s := s.consume .derateChange
  if s.isOpen then .next s.takeDerate.trigger else .next s

/-- PENALTY_CHANGE (R51). -/
def execPenaltyChange (s : State) : Host.Outcome State Fault Refusal := .next (s.consume .penaltyChange).trigger

/-- QUIET_ZONE_CHANGE (R51, R164). -/
def execQuietZoneChange (s : State) : Host.Outcome State Fault Refusal := .next (s.consume .quietZoneChange).trigger

/-- AUX_CHANGE (R51, R94, R95). -/
def execAuxChange (s : State) : Host.Outcome State Fault Refusal := .next (s.consume .auxChange).trigger

/-- Key-off at the Contract Unit (R61). -/
def State.contractKeyOff (s : State) : State :=
  match s.cu.gate with
  | .opened => s.drop .keyOff
  | .safe =>
    ((s.onCu fun c => { c with gate := .blocked }).raise .modeDerivation).levelsFrom s.cu.inMismatch .safe
  | .blocked => s

end Sys2Proof.Machine
end

