-- ==== Sys2Proof/Machine/Auxiliary.lean ====
section
/-! DEFINITION. The Auxiliary Output Unit (chapter 5). -/

namespace Sys2Proof.Machine

/-- The aux allowance of a vector (R90): the rated draws of the lines it enables, line 1 in bit 0. -/
def allowance (vector : BitVec 8) (i : Nat) : List Nat → Nat
  | [] => 0
  | d :: ds => (if vector.getLsbD i then d else 0) + allowance vector (i + 1) ds

/-- The four allowances of the settings (R90). -/
def Settings.allowances (x : Settings) : PerMode Nat where
  electric := allowance x.vectors.electric 0 x.draws
  hybrid := allowance x.vectors.hybrid 0 x.draws
  charge := allowance x.vectors.charge 0 x.draws
  safe := allowance x.vectors.safe 0 x.draws

/-- The levels of the lines: high exactly where the vector's bit and the polarity agree (R92). -/
def lineLevels (vector polarity : BitVec 8) : BitVec 8 := ~~~(vector ^^^ polarity)

/-- All eight lines take their levels (R92); high-impedance lines stay so until the load's end (R93). -/
def State.driveLines (s : State) : State :=
  match s.aux.lines with
  | .highZ => s
  | .driven _ =>
    { s with aux := { s.aux with lines := .driven (lineLevels (s.settings.vectors.get s.aux.mode) s.settings.polarity) } }

/-- The driveline mode of the gate and the active contract (R87). -/
def ContractUnit.drivelineMode (c : ContractUnit) : Mode :=
  match c.gate with
  | .opened => (match c.active with | some a => a.terms.mode | none => .electric)
  | .blocked => .safe
  | .safe => .safe

/-- The mode derived afresh: the lines move only if it is another (R87, R92). -/
def State.deriveMode (s : State) : State :=
  if s.cu.drivelineMode = s.aux.mode then s
  else ({ s with aux := { s.aux with mode := s.cu.drivelineMode } }).driveLines

/-- MODE_DERIVATION (R87, R92, R93). -/
def execModeDerivation (s : State) : Host.Outcome State Fault Refusal := .next (s.consume .modeDerivation).deriveMode

/-- New vectors or draws bring the allowances up to date and are told to the Contract Unit (R90, R94, R95). -/
def State.auxChanged (s : State) : State :=
  ({ s with aux := { s.aux with allowances := s.settings.allowances } }).raise .auxChange

/-- A mode vector written (R94): the eight enables of bits 0 to 7. -/
def State.writeModeVectorOp (s : State) (m : Mode) (value : Int) : State :=
  let v := BitVec.ofInt 8 value
  if s.settings.vectors.get m = v then s
  else
    let s := ({ s with settings := { s.settings with vectors := s.settings.vectors.set m v } }).auxChanged
    if s.aux.mode = m then s.driveLines else s

/-- WRITE_MODE_VECTOR (R94, R162; log 17). -/
def execWriteModeVector (m : Mode) (value : Int) (s : State) : Host.Outcome State Fault Refusal :=
  .next ((s.writeModeVectorOp m value).writeDone (.writeModeVector m value) false)

/-- A rated draw written (R88, R95). -/
def State.writeRatedDrawOp (s : State) (line : Fin 8) (value : Int) : State :=
  let d := (writtenIn 0 63 value).value.toNat
  if s.settings.draws.getD line 0 = d then s
  else ({ s with settings := { s.settings with draws := s.settings.draws.set line d } }).auxChanged

/-- WRITE_RATED_DRAW (R95, R162). -/
def execWriteRatedDraw (line : Fin 8) (value : Int) (s : State) : Host.Outcome State Fault Refusal :=
  .next ((s.writeRatedDrawOp line value).writeDone (.writeRatedDraw line value) (writtenIn 0 63 value).clamped)

/-- A polarity written (R91, R96). -/
def State.writePolarityOp (s : State) (line : Fin 8) (value : Int) : State :=
  let p := setBit s.settings.polarity line (decide ((writtenIn 0 1 value).value = 1))
  ({ s with settings := { s.settings with polarity := p } }).driveLines

/-- WRITE_POLARITY (R96, R162). -/
def execWritePolarity (line : Fin 8) (value : Int) (s : State) : Host.Outcome State Fault Refusal :=
  .next ((s.writePolarityOp line value).writeDone (.writePolarity line value) (writtenIn 0 1 value).clamped)

end Sys2Proof.Machine
end

