-- ==== Sys2Proof/Machine/Genset.lean ====
section
/-! DEFINITION. The Genset Sequencer (chapter 4). -/

namespace Sys2Proof.Machine

/-- Change what the Genset Sequencer holds. -/
def State.onGs (s : State) (f : Sequencer → Sequencer) : State := { s with gs := f s.gs }

/-- A command to the genset controller (R83): queued while the Genset port is UP (R153). -/
def State.command (s : State) (c : GensetCommand) (index : Option Nat := none) (kw : Nat := 0) : State :=
  s.submit .genset (.gensetCommand c index kw)

/-- OPERATE with the held commitment (R72). -/
def State.operate (s : State) : State := s.command .operate s.gs.heldIndex s.gs.heldKw

/-- The stop cause written, and the lockout fault code with it: absent unless the cause is FAULT (R84). -/
def Sequencer.stopFor (g : Sequencer) (cause : StopCause) (code : Option Nat) : Sequencer :=
  { g with stopCause := cause, lockoutCode := if cause = .fault then code else none }

/-- Every timer stopped (R77, R78). -/
def Sequencer.stopTimers (g : Sequencer) : Sequencer :=
  { g with crank := .stopped, rest := .stopped, warm := .stopped, idleOff := .stopped, cooldown := .stopped }

/-- The genset left ONLINE: told to the Contract Unit (R72). -/
def State.leaving (s : State) (was : GensetState) : State := s.raiseIf (was == .online) .gensetLeavesOnline

/-- The genset is locked out (R68, R69, R77, R78), which is told to the Warning Unit (R139) and, from ONLINE, to the Contract
Unit. -/
def State.lockOut (s : State) (cause : StopCause) (code : Option Nat) : State :=
  let was := s.gs.state
  let s := s.onGs fun g => { (g.stopTimers.stopFor cause code) with state := .lockedOut }
  (s.leaving was).raise (.conditionLevelChange [.gensetLockout true])

/-! ### Start need and permission (R66, R68) -/

/-- Start permission (R66). -/
def State.startPermission (s : State) : Bool :=
  s.key && s.isUp .genset &&
    (!s.quiet || (match s.view.pack with | none => false | some p => decide (p.content.soc < s.settings.criticalMark)))

/-- Start need (R66). -/
def State.startNeed (s : State) : Bool := s.gs.wantedCopy && s.startPermission

/-- A start from STOPPED (R68): the next attempt, or the lockout after three. -/
def State.startEngine (s : State) (cause : StartCause) : State :=
  if s.gs.attempts < 3 then
    (s.onGs fun g =>
      { g with
        state := .cranking
        attempts := g.attempts + 1
        crank := Timer.seconds s.settings.crank
        startCause := cause }).command .start
  else (s.lockOut .noStart none).command .stop

/-- The start cause of a want (R68). -/
def startCauseOf : Option WantCause → StartCause
  | some .demand => .demand
  | some .charge => .charge
  | none => .none

/-! ### ONLINE and the idle-off timer (R72 to R74) -/

/-- The idle-off timer as a start or restart leaves it (R73): code 0 runs and never expires. -/
def idleTimer (code : Nat) : Timer :=
  match code with
  | 0 => .endless
  | 8 => Timer.seconds 10
  | 9 => Timer.seconds 15
  | 10 => Timer.seconds 20
  | 11 => Timer.seconds 30
  | 12 => Timer.seconds 45
  | 13 => Timer.seconds 60
  | 14 => Timer.seconds 90
  | 15 => Timer.seconds 120
  | n => Timer.seconds n

/-- COOLDOWN entered, its timer started (R76). -/
def State.coolDown (s : State) : State :=
  s.onGs fun g =>
    { g with
      state := .cooldown
      cooldown := Timer.seconds (if s.quiet then s.settings.quietCooldown else s.settings.cooldown) }

/-- The idle-off timer has expired: ONLINE to COOLDOWN (R74). -/
def State.idleOffEnds (s : State) (cause : StopCause) : State :=
  let was := s.gs.state
  let s := (s.command .cooldown).onGs fun g => { (g.stopFor cause none) with idleOff := .stopped }
  s.coolDown.leaving was

/-- R73 applied. -/
def State.applyIdleRule (s : State) : State :=
  if s.gs.state = .online then
    if s.gs.heldIndex.isNone && !s.gs.wantedCopy then
      if s.gs.idleOff.isRunning then s
      else if s.quiet then s.idleOffEnds .quietZone
      else s.onGs fun g => { g with idleOff := idleTimer s.settings.idleOffCode }
    else s.onGs fun g => { g with idleOff := .stopped }
  else s

/-- Entry to ONLINE (R72). It clears the start-attempt count from COOLDOWN too, as R72, R64 and the note of R70 say, where R76 says
of that return that the count is unchanged (log 34). -/
def State.enterOnline (s : State) : State :=
  let s := s.onGs fun g => { g with state := .online, attempts := 0, warm := .stopped, cooldown := .stopped }
  (s.operate.raise .gensetEntersOnline).applyIdleRule

/-- An evaluation of start need (R66, R68, R76). -/
def State.evaluateStart (s : State) : State :=
  match s.gs.state with
  | .stopped => if s.startNeed then s.startEngine (startCauseOf s.gs.wantCause) else s
  | .cooldown => if s.startNeed then s.enterOnline else s
  | .unknown => s
  | .cranking => s
  | .resting => s
  | .warming => s
  | .online => s
  | .lockedOut => s

/-- Entry to STOPPED (R66). -/
def State.enterStopped (s : State) : State := (s.onGs fun g => { g with state := .stopped }).evaluateStart

/-- Entry to COOLDOWN with COOLDOWN queued (R67, R76, R79, R80, R82). -/
def State.enterCooldown (s : State) : State := (s.command .cooldown).coolDown.evaluateStart

/-! ### Signals -/

/-- GENSET_WANTED_CHANGE (R66, R73). The want cause comes with a raising (R64; log 30). -/
def execGensetWantedChange (wanted : Bool) (cause : WantCause) (s : State) : Host.Outcome State Fault Refusal :=
  let s := s.consume (.gensetWantedChange wanted cause)
  let s := s.onGs fun g => { g with wantedCopy := wanted, wantCause := if wanted then some cause else g.wantCause }
  .next s.evaluateStart.applyIdleRule

/-- A fault report, or an unbidden stop (R77). -/
def State.failed (s : State) (code : Option Nat) : State := (s.lockOut .fault code).command .stop

/-- A crank that ended in RUNNING (R69, R71, R85). -/
def State.crankEnds (s : State) (coolant : Int) : State :=
  let warm := decide (s.settings.warmTemp ≤ coolant)
  let s := s.onGs fun g => { g with crank := .stopped, state := .warming }
  let s := s.raise (.startPointsHandOff (if warm then 1 else 3))
  if warm then s.enterOnline else s.onGs fun g => { g with warm := Timer.seconds s.settings.warm }

/-- What a genset report does in each state (R67 to R71, R76, R77, R79). -/
def State.takeGensetReport (s : State) (cond : EngineCondition) (coolant : Int) (fault : Option Nat) : State :=
  match s.gs.state, cond with
  | .unknown, .stopped => s.enterStopped
  | .unknown, .cranking => (s.command .stop).enterStopped
  | .unknown, .running => s.enterCooldown
  | .unknown, .fault => s.failed fault
  | .stopped, .stopped => s
  | .stopped, .cranking => s.command .stop
  | .stopped, .running => s.command .stop
  | .stopped, .fault => s.failed fault
  | .cranking, .stopped => s
  | .cranking, .cranking => s
  | .cranking, .running => s.crankEnds coolant
  | .cranking, .fault => s.failed fault
  | .resting, .stopped => s
  | .resting, .cranking => s.command .stop
  | .resting, .running => s.command .stop
  | .resting, .fault => s.failed fault
  | .warming, .stopped => s.failed none
  | .warming, .cranking => s
  | .warming, .running => if s.settings.warmTemp ≤ coolant then s.enterOnline else s
  | .warming, .fault => s.failed fault
  | .online, .stopped => s.failed none
  | .online, .cranking => s
  | .online, .running => s
  | .online, .fault => s.failed fault
  | .cooldown, .stopped => (s.onGs fun g => { g with cooldown := .stopped }).enterStopped
  | .cooldown, .cranking => s
  | .cooldown, .running => s
  | .cooldown, .fault => s.failed fault
  | .lockedOut, _ => s

/-- GENSET_REPORT_SIGNAL (R67 to R71, R76, R77, R85). -/
def execGensetReportSignal (cond : EngineCondition) (coolant : Int) (fault : Option Nat) (s : State) :
    Host.Outcome State Fault Refusal :=
  .next ((s.consume (.gensetReportSignal cond coolant fault)).takeGensetReport cond coolant fault)

/-- An activity (R75): its latch, and the restart of a running idle-off timer. -/
def State.takeActivity (s : State) (src : ActivitySource) : State :=
  s.onGs fun g =>
    { g with
      activity := g.activity.add src
      idleOff := if g.idleOff.isRunning && !s.settings.masked src then idleTimer s.settings.idleOffCode else g.idleOff }

/-- ACTIVITY_SIGNAL (R75). -/
def execActivitySignal (src : ActivitySource) (s : State) : Host.Outcome State Fault Refusal :=
  .next ((s.consume (.activitySignal src)).takeActivity src)

/-- CRITICAL_MARK_SIGNAL (R66). -/
def execCriticalMarkSignal (s : State) : Host.Outcome State Fault Refusal :=
  .next (s.consume .criticalMarkSignal).evaluateStart

/-- COMMITMENT_HANDED (R72, R73). -/
def execCommitmentHanded (kw : Nat) (index : Option Nat) (s : State) : Host.Outcome State Fault Refusal :=
  let s := s.consume (.commitmentHanded kw index)
  if s.gs.heldKw = kw ∧ s.gs.heldIndex = index then .next s
  else
    let s := s.onGs fun g => { g with heldKw := kw, heldIndex := index }
    .next (if s.gs.state = .online then s.operate else s).applyIdleRule

/-- A cooldown cut to the quiet cooldown setting if it has more left (R81). -/
def cutCooldown (quietSeconds : Nat) : Timer → Timer
  | .running n => .running (min n (1000 * quietSeconds))
  | .stopped => .stopped
  | .endless => Timer.seconds quietSeconds

/-- The zone becomes set (R81): a running idle-off timer expires at once, a cooldown is cut short. -/
def State.zoneSet (s : State) : State :=
  if s.gs.idleOff.isRunning then s.idleOffEnds .quietZone
  else if s.gs.state = .cooldown then s.onGs fun g => { g with cooldown := cutCooldown s.settings.quietCooldown g.cooldown }
  else s

/-- QUIET_ZONE_SEQUENCER (R66, R81). -/
def execQuietZoneSequencer (on : Bool) (s : State) : Host.Outcome State Fault Refusal :=
  let s := s.consume (.quietZoneSequencer on)
  .next (if on then s.zoneSet else s).evaluateStart

/-- The Genset port lost or reset (R78). -/
def State.gensetPortGone (s : State) : State := s.lockOut .portLost none

/-- PORT_STATE_SEQUENCER (R66, R67, R78). -/
def execPortStateSequencer (now : PortState) (s : State) : Host.Outcome State Fault Refusal :=
  let s := s.consume (.portStateSequencer now)
  match now with
  | .up => .next s.evaluateStart
  | .lost => if s.gs.state = .unknown ∨ s.gs.state = .lockedOut then .next s else .next s.gensetPortGone
  | .down => if s.gs.state = .lockedOut then .next s else .next s.gensetPortGone

/-! ### Timer expiries -/

/-- CRANK_TIMER_EXPIRY (R69). -/
def execCrankTimerExpiry (s : State) : Host.Outcome State Fault Refusal :=
  if s.gs.crank.isRunning then
    if s.gs.attempts < 3 then
      .next ((s.onGs fun g => { g with state := .resting, crank := .stopped, rest := Timer.seconds 10 }).command .stop)
    else .next ((s.lockOut .noStart none).command .stop)
  else .next s

/-- REST_TIMER_EXPIRY (R70). -/
def execRestTimerExpiry (s : State) : Host.Outcome State Fault Refusal :=
  if s.gs.rest.isRunning then .next (s.onGs fun g => { g with rest := .stopped }).enterStopped else .next s

/-- WARM_TIMER_EXPIRY (R71). -/
def execWarmTimerExpiry (s : State) : Host.Outcome State Fault Refusal :=
  if s.gs.warm.isRunning then .next s.enterOnline else .next s

/-- IDLE_OFF_EXPIRY (R74): with code 0 the timer runs and has no expiry (R73). -/
def execIdleOffExpiry (s : State) : Host.Outcome State Fault Refusal :=
  match s.gs.idleOff with
  | .running _ => .next (s.idleOffEnds .idleOff).evaluateStart
  | .stopped => .next s
  | .endless => .next s

/-- COOLDOWN_TIMER_EXPIRY (R76). -/
def execCooldownTimerExpiry (s : State) : Host.Outcome State Fault Refusal :=
  if s.gs.cooldown.isRunning then .next ((s.onGs fun g => { g with cooldown := .stopped }).command .stop).enterStopped
  else .next s

/-! ### Key, reset and the Service port -/

/-- A crank stopped (R80, R82). -/
def State.abandonCrank (s : State) : State := ((s.onGs fun g => { g with crank := .stopped }).command .stop).enterStopped

/-- A warming or running engine sent to COOLDOWN (R80, R82). -/
def State.retire (s : State) : State :=
  let was := s.gs.state
  ((s.onGs fun g => { g with warm := .stopped, idleOff := .stopped }).leaving was).enterCooldown

/-- The stop cause KEY_OFF written (R80, R84). -/
def State.keyOffCause (s : State) : State := s.onGs fun g => g.stopFor .keyOff none

/-- Key-off at the sequencer, the KEY input already off (R80). -/
def State.sequencerKeyOff (s : State) : State :=
  match s.gs.state with
  | .cranking => s.keyOffCause.abandonCrank
  | .warming => s.keyOffCause.retire
  | .online => s.keyOffCause.retire
  | .unknown => s
  | .stopped => s.evaluateStart
  | .resting => s
  | .cooldown => s.evaluateStart
  | .lockedOut => s

/-- DRIVELINE_RESET at the sequencer (R82). -/
def State.sequencerReset (s : State) : State :=
  let s := s.onGs fun g => { g with wantedCopy := false }
  match s.gs.state with
  | .cranking => s.abandonCrank
  | .warming => s.retire
  | .online => s.retire
  | .unknown => s
  | .stopped => s
  | .resting => s
  | .cooldown => s
  | .lockedOut => s

/-- The critical mark written; a change evaluates start need (R66). -/
def State.writeCriticalMarkOp (s : State) (value : Int) : State :=
  let mark := (writtenIn 0 1000 value).value.toNat
  let s' := { s with settings := { s.settings with criticalMark := mark } }
  if mark = s.settings.criticalMark then s' else s'.evaluateStart

/-- WRITE_CRITICAL_MARK (R66, R162). -/
def execWriteCriticalMark (value : Int) (s : State) : Host.Outcome State Fault Refusal :=
  .next ((s.writeCriticalMarkOp value).writeDone (.writeCriticalMark value) (writtenIn 0 1000 value).clamped)

/-- LOCKED_OUT left (R79), which is told to the Warning Unit (R139). -/
def State.unlocked (s : State) : State := s.raise (.conditionLevelChange [.gensetLockout false])

/-- CLEAR_LOCKOUT in LOCKED_OUT, the count cleared (R79). -/
def State.leaveLockout (s : State) : State :=
  if s.isUp .genset then
    match s.view.genset with
    | none => (s.onGs fun g => { g with state := .unknown }).unlocked
    | some p =>
      match p.content.condition with
      | .stopped => s.unlocked.enterStopped
      | .cranking => (s.unlocked.command .stop).enterStopped
      | .running => s.unlocked.enterCooldown
      | .fault => s
  else (s.onGs fun g => { g with state := .unknown }).unlocked

/-- CLEAR_LOCKOUT (R79, R163). -/
def execClearLockout (s : State) : Host.Outcome State Fault Refusal :=
  let t := if s.gs.state = .lockedOut then (s.onGs fun g => { g with attempts := 0 }).leaveLockout else s
  .next (t.serviceDone .clearLockout 0x64)

/-- The start effect of an ACTIVITY command (R68). -/
def State.serviceStart (s : State) : State :=
  if s.gs.state = .stopped ∧ s.startPermission then s.startEngine .service else s

/-- ACTIVITY (R68, R75, R163). -/
def execActivity (s : State) : Host.Outcome State Fault Refusal :=
  .next ((s.takeActivity .service).serviceStart.serviceDone .activity 0x65)

end Sys2Proof.Machine
end

