-- ==== Sys2Proof/Machine/Blend.lean ====
section
/-! DEFINITION. The Blend Unit (chapter 6): the stages of a run, the commands it queues and the hand-off to the Wear Unit. -/

namespace Sys2Proof.Machine

/-- What a run reads, once (R101). -/
structure BlendInputs where
  v : Nat
  rMot : Nat
  demand : BrakeDemand
  /-- the active contract's regeneration ceiling and aux allowance -/
  contract : Option (Nat × Nat)
  brakeUp : Bool
  key : Bool
  fade : Bool
  prev : Nat
  deriving DecidableEq, Repr

/-- What a run reads of a brake demand that is absent (R10, R101). -/
def absentDemand : BrakeDemand := ⟨0, 80, 0, 0, 0, false, false, false, false⟩

/-- The inputs as they stand (R101). -/
def State.blendInputs (s : State) : BlendInputs where
  v := match s.view.traction with | some p => p.content.v | none => 0
  rMot := match s.view.traction with | some p => p.content.rMot | none => 0
  demand := match s.view.brake with | some p => p.content | none => absentDemand
  contract := s.cu.active.map fun c => (c.terms.ceiling, c.terms.aux)
  brakeUp := s.isUp .brake
  key := s.key
  fade := s.blend.fade
  prev := s.blend.result.applied

/-! ### Demand and ceilings (R102 to R105) -/

/-- Demand power (R102). -/
def demandPower (m d v : Nat) : Nat := min 1023 (m * d * v / 10000)

/-- Motor ceiling, faded at low speed (R103). -/
def motorCeiling (x : Settings) (v rMot : Nat) : Nat :=
  if v ≤ x.vLo then 0 else if x.vHi ≤ v then rMot else rMot * (v - x.vLo) / (x.vHi - x.vLo)

/-- Storage ceiling (R104). -/
def storageCeiling (eta : Nat) : Option (Nat × Nat) → Nat
  | none => 0
  | some (c, aux) => min 1023 ((c + aux) * 100 / eta)

/-- Adhesion cap (R105). -/
def adhesionCap (x : Settings) (fade : Bool) (pDem : Nat) : Nat := pDem * (if fade then x.hotShare else x.driveShare) / 100

/-! ### Target, ramp and clips (R106 to R108) -/

/-- The forced-zero causes a run finds (R107). -/
def BlendInputs.causes (i : BlendInputs) : Forced := ⟨i.contract.isNone, !i.brakeUp, i.demand.abs3, !i.key⟩

/-- The ramp of a periodic run (R108). -/
def rampPeriodic (x : Settings) (hold : Bool) (prev target : Nat) : Nat × RampStep :=
  if target = prev then (prev, .none)
  else if prev < target then
    if hold then (prev, .held)
    else if target - prev ≤ x.catchUp then (min target (prev + x.upSlope), .up)
    else (min target (prev + 2 * x.upSlope), .upDoubled)
  else if prev - target ≤ x.catchUp then (max target (prev - x.downSlope), .down)
  else (max target (prev - 2 * x.downSlope), .downDoubled)

/-- The ramp of an immediate run (R108). -/
def rampImmediate (prev target : Nat) : Nat × RampStep := (prev, if prev < target then .held else .none)

/-- Both clips of R108. -/
def clip (pDem rStorage r : Nat) : Nat := min (min r pDem) rStorage

/-! ### The split (R110, R111) -/

/-- Regeneration deceleration (R110). -/
def regenDeceleration (r m v : Nat) : Nat := if v = 0 then 0 else r * 10000 / (m * v)

/-- One axle's part before the remainder, and the shares when no load is known (R111). -/
def axlePart (f load total other : Nat) : Nat := if total = 0 then f * other / 100 else f * load / total

/-- The friction power of the three axles (R111). -/
def splitAxles (f l1 l2 l3 : Nat) : Nat × Nat × Nat :=
  let t := l1 + l2 + l3
  let f1 := axlePart f l1 t 30
  let f2 := axlePart f l2 t 30
  let f3 := axlePart f l3 t 40
  (f1 + (f - (f1 + f2 + f3)), f2, f3)

/-- The friction power of the six wheel ends (R111): an odd kilowatt goes to the left. -/
def splitWheels (f1 f2 f3 : Nat) : Six Nat := ⟨f1 - f1 / 2, f1 / 2, f2 - f2 / 2, f2 / 2, f3 - f3 / 2, f3 / 2⟩

/-- What a run finds: its result, the step, and the clipped flag. -/
structure BlendRun where
  result : BlendResult
  step : RampStep
  clipped : Bool

/-- The stages of a run (R102 to R111). -/
def BlendInputs.run (x : Settings) (i : BlendInputs) (periodic : Bool) : BlendRun :=
  let d := i.demand
  let pDem := demandPower d.m d.d i.v
  let rMotor := motorCeiling x i.v i.rMot
  let rStorage := storageCeiling x.eta i.contract
  let rAdhesion := adhesionCap x i.fade pDem
  let target := if i.causes.any then 0 else min (min pDem rMotor) (min rStorage rAdhesion)
  let stepped :=
    if i.causes.any then (0, RampStep.none)
    else if periodic then rampPeriodic x (d.abs1 || d.abs2) i.prev target
    else rampImmediate i.prev target
  let applied := if i.causes.any then 0 else clip pDem rStorage stepped.1
  let dRegen := regenDeceleration applied d.m i.v
  let f := pDem - applied
  let axles := splitAxles f d.load1 d.load2 d.load3
  { result :=
      { pDem := pDem, rMotor := rMotor, rStorage := rStorage, rAdhesion := rAdhesion, target := target,
        applied := applied, dRegen := dRegen, dFriction := d.d - dRegen, friction := f,
        axle1 := axles.1, axle2 := axles.2.1, axle3 := axles.2.2,
        wheels := splitWheels axles.1 axles.2.1 axles.2.2 }
    step := stepped.2
    clipped := decide (applied < stepped.1) }

/-! ### Commands (R112, R113) -/

/-- REGEN_COMMAND offered to the Traction port (R112). -/
def State.offerRegen (s : State) : State :=
  let r := s.blend.result.applied
  let d := s.blend.result.dRegen
  if s.isUp .traction ∧ s.blend.regenCopy ≠ some (r, d) then
    { s.submit .traction (.regenCommand r d) with blend := { s.blend with regenCopy := some (r, d) } }
  else s

/-- The figures a FRICTION_COMMAND carries (R113). -/
def BlendResult.frictionFigures (r : BlendResult) : FrictionCopy := ⟨r.dFriction, r.friction, r.axle1, r.axle2, r.axle3⟩

/-- FRICTION_COMMAND offered to the Brake port (R113). -/
def State.offerFriction (s : State) : State :=
  let c := s.blend.result.frictionFigures
  if s.isUp .brake ∧ s.blend.frictionCopy ≠ some c then
    { s.submit .brake (.frictionCommand c) with blend := { s.blend with frictionCopy := some c } }
  else s

/-- A run, periodic or immediate: the hand-off of the previous result (R114), the stages, and the commands. -/
def State.blendRun (s : State) (periodic : Bool) : State :=
  let run := s.blendInputs.run s.settings periodic
  let s := s.raise (.frictionHandOff s.blend.result.wheels (elapsed s.ms s.blend.lastRun))
  let s := { s with blend := { s.blend with
    result := run.result
    step := run.step
    clipped := run.clipped
    forced := s.blendInputs.causes
    lastRun := s.ms } }
  s.offerRegen.offerFriction

/-- BLEND_TIMER_EXPIRY (R99). -/
def execBlendTimerExpiry (s : State) : Host.Outcome State Fault Refusal :=
  if s.blend.timer.isRunning then
    .next (({ s with blend := { s.blend with timer := .running s.settings.blendPeriod } }).blendRun true)
  else .next s

/-- BLEND_IMMEDIATE_RUN (R100). -/
def execBlendImmediateRun (s : State) : Host.Outcome State Fault Refusal :=
  .next ((s.consume .blendImmediateRun).blendRun false)

/-- FADE_COPY_UPDATE (R98, R125). -/
def execFadeCopyUpdate (level : Bool) (s : State) : Host.Outcome State Fault Refusal :=
  let s := s.consume (.fadeCopyUpdate level)
  .next { s with blend := { s.blend with fade := level } }

/-- The last-queued copy of a port's command made absent (R113). -/
def BlendUnit.forget (b : BlendUnit) : Port → BlendUnit
  | .traction => { b with regenCopy := none }
  | .brake => { b with frictionCopy := none }
  | .pack => b
  | .genset => b

/-- PORT_STATE_BLEND (R100, R113, R115, R116). -/
def execPortStateBlend (p : Port) (now : PortState) (s : State) : Host.Outcome State Fault Refusal :=
  let s := s.consume (.portStateBlend p now)
  if now = .up then .next { s with blend := s.blend.forget p }
  else if p = .brake then .next (s.blendRun false)
  else .next s

end Sys2Proof.Machine
end

