-- ==== Sys2Proof/Machine/Ports.lean ====
section
/-! DEFINITION. The Partner Port Units (chapter 10): exchanges, the silence timer, status, and the resets of a port. -/

namespace Sys2Proof.Machine

/-! ### The outbound frame (R154) -/

/-- With no reply waiting: the notice at the head of the queue, or an IDLE frame (R154). -/
def PartnerPort.chooseNotice (pp : PartnerPort) (gate : Gate) : Exchange :=
  match pp.queue with
  | [] => ⟨idleFrame pp.state gate, .idle, false, true⟩
  | n :: _ => ⟨n.frame, .notice n.cls, false, true⟩

/-- The frame chosen when select falls (R151, R154). -/
def PartnerPort.choose (pp : PartnerPort) (gate : Gate) : Exchange :=
  match pp.slot with
  | .reply r => ⟨r.frame pp.overrun, .reply, pp.overrun, true⟩
  | .empty => pp.chooseNotice gate
  | .reserved _ => pp.chooseNotice gate

/-- The chosen frame disposed of after an exchange of `n` bytes (R151, R154). -/
def PartnerPort.dispose (pp : PartnerPort) (x : Exchange) (n : Nat) : PartnerPort :=
  let whole := decide (x.frame.length ≤ n)
  let pp := { pp with exchange := none, lastOut := clocked x.frame n, overrun := pp.overrun && !(whole && x.overrun) }
  if whole && x.intact then
    match x.source with
    | .idle => pp
    | .reply => { pp with slot := match pp.slot with | .reply _ => .empty | y => y }
    | .notice c => { pp with queue := pp.queue.filter fun m => m.cls != c }
  else pp

/-! ### The inbound frame (R148 to R151, R156) -/

/-- A tally increased by one (R149). -/
def tally (n : Nat) : Nat := min 65535 (n + 1)

/-- A failed frame tallied, and answered if the slot is empty (R149). -/
def PartnerPort.fail (pp : PartnerPort) (cls : FrameClass) : PartnerPort :=
  let pp := match cls with
    | .frameCrc => { pp with crcTally := tally pp.crcTally }
    | .frameLength => { pp with lengthTally := tally pp.lengthTally }
    | .wrongKind => { pp with kindTally := tally pp.kindTally }
  if pp.slotEmpty then { pp with slot := .reply (.frameError cls) } else pp

/-- A valid frame's request taken: it reserves the slot, or a NOP is answered at once (R150); with the slot not empty it is
discarded (R151). -/
def PartnerPort.take (pp : PartnerPort) (request : Option Instr) : PartnerPort :=
  if pp.slotEmpty then
    match request with
    | some i => { pp with slot := .reserved i }
    | none => { pp with slot := .reply (.answer 0x01 .done false []) }
  else { pp with overrun := true }

/-- A valid frame (R150, R156): the port is UP and its silence timer starts anew; a change of its state is handed on (R157). -/
def State.validFrame (s : State) (p : Port) (request : Option Instr) : State :=
  let was := (s.port p).state
  let s := s.onPort p fun pp =>
    ({ pp with state := .up, silence := .running s.settings.silenceWindow }).take request
  if was = .up then s else s.portChanged p was .up

/-- The inbound bytes of an exchange (R148, R149). -/
def State.inbound (s : State) (p : Port) (bytes : List Byte) : State :=
  if bytes.all (fun b => b == 0#8) then s
  else
    match checkFrame (partnerLength p) bytes with
    | .error cls => s.onPort p fun pp => pp.fail cls
    | .ok (kind, payload) => s.validFrame p (decodePartner p kind payload)

/-- Select falls (R154). A fall while it is low is none (log 31). -/
def State.selectFalls (s : State) (p : Port) : State :=
  s.onPort p fun pp => if pp.exchange.isSome then pp else { pp with exchange := some (pp.choose s.cu.gate) }

/-- Select rises after these bytes (R148, R154). A rise while it is high is none (log 31), nor one whose fall came before the load's
end or before a reset of the part (log 38). -/
def State.selectRises (s : State) (p : Port) (bytes : List Byte) : State :=
  match (s.port p).exchange with
  | none => s
  | some x => (s.onPort p fun pp => pp.dispose x bytes.length).inbound p bytes

/-- An exchange before the load's end: 0x00 bytes and no frame (R167). -/
def State.deadExchange (s : State) (p : Port) (n : Nat) : State :=
  s.onPort p fun pp => { pp with lastOut := List.replicate n 0#8 }

/-- SPI_EXCHANGE (R148 to R151, R154, R156, R167). -/
def execSpiExchange (p : Port) (e : SpiEvent) (s : State) : Host.Outcome State Fault Refusal :=
  if s.loaded then
    match e with
    | .whole bytes => .next ((s.selectFalls p).selectRises p bytes)
    | .selectFalls => .next (s.selectFalls p)
    | .selectRises bytes => .next (s.selectRises p bytes)
  else
    match e with
    | .whole bytes => .next (s.deadExchange p bytes.length)
    | .selectFalls => .next s
    | .selectRises bytes => .next (s.deadExchange p bytes.length)

/-! ### Status (R19, R158) -/

/-- The age of a record, saturated at 65535 ms (R18). -/
def State.age {α : Type} (s : State) (p : Place α) : Nat := min 65535 (elapsed s.ms p.arrival)

/-- Presence, freshness and age of a report place, as the status content carries them (section 10-3). -/
def State.placeStatus {α : Type} (s : State) (p : Option (Place α)) : List Byte :=
  match p with
  | none => [0#8] ++ le16 0
  | some x => [BitVec.ofNat 8 (1 + (if x.held then 2 else 0))] ++ le16 (s.age x)

/-- The count of a list, and of its entries with a mark (R19). -/
def listStatus (list : Option (Place (List Offer))) : List Byte :=
  match list with
  | none => [0#8, 0#8]
  | some p =>
    [BitVec.ofNat 8 p.content.length, BitVec.ofNat 8 (p.content.countP fun o => o.excluded || o.expired)]

/-- The part of the status content that depends on the port (section 10-3, R19). -/
def State.portStatus (s : State) : Port → List Byte
  | .traction =>
    s.placeStatus s.view.traction ++ le16s (match s.view.traction with | some x => x.content.motorTemp | none => 0)
  | .pack => s.placeStatus s.view.pack ++ listStatus s.view.storage
  | .genset =>
    s.placeStatus s.view.genset ++ listStatus s.view.gensetList ++ [BitVec.ofNat 8 s.gs.state.code]
  | .brake =>
    s.placeStatus s.view.brake ++
      [BitVec.ofNat 8 (match s.view.brake with | some x => flagByte [x.content.parking] | none => 0)]

/-- The number of the pending proposal, or 0 (R158). -/
def ContractUnit.proposalNumber (c : ContractUnit) : Nat :=
  match c.proposal with
  | none => 0
  | some p => p.number

/-- The status content (section 10-3, R158). -/
def State.statusContent (s : State) (p : Port) : List Byte :=
  let pp := s.port p
  [BitVec.ofNat 8 (portCode pp.state), BitVec.ofNat 8 s.cu.gate.code, BitVec.ofNat 8 s.cu.activeNumber,
    BitVec.ofNat 8 s.cu.proposalNumber, BitVec.ofNat 8 (flagByte [pp.overrun])] ++
    le16 pp.crcTally ++ le16 pp.lengthTally ++ le16 pp.kindTally ++ s.portStatus p

/-- STATUS_QUERY (R19, R158). -/
def execStatusQuery (p : Port) (s : State) : Host.Outcome State Fault Refusal :=
  .next (s.answer p (.statusQuery p) 0x02 .status false (s.statusContent p))

/-! ### Silence (R156) -/

/-- SILENCE_TIMER_EXPIRY (R156, R157). -/
def execSilenceTimerExpiry (p : Port) (s : State) : Host.Outcome State Fault Refusal :=
  if (s.port p).silence.isRunning ∧ s.isUp p then
    .next ((s.onPort p fun pp => { pp with state := .lost, silence := .stopped }).portChanged p .up .lost)
  else .next s

/-! ### PORT_RESET and TALLY_CLEAR (R157, R163) -/

/-- What a PORT_RESET leaves at the port (R150, R156, R157). -/
def PartnerPort.portReset (pp : PartnerPort) : PartnerPort :=
  { PartnerPort.reset with
    exchange := pp.exchange.map fun x => { x with intact := false }
    lastOut := pp.lastOut
    orphan := match pp.slot with | .reserved i => some i | .empty => pp.orphan | .reply _ => pp.orphan }

/-- A port reset by the service controller: the change to DOWN is handed on even by a port already DOWN (R78, R157, R163;
log 15), and the last-queued copy of its command is made absent (R113). -/
def State.resetPort (s : State) (p : Port) : State :=
  let was := (s.port p).state
  let s := s.onPort p PartnerPort.portReset
  ({ s with blend := s.blend.forget p }).portChanged p was .down

/-- PORT_RESET (R157, R163). -/
def execPortReset (port : Nat) (s : State) : Host.Outcome State Fault Refusal :=
  match Port.ofIndex port with
  | some p => .next ((s.resetPort p).serviceDone (.portReset port) 0x67)
  | none => .next (s.serviceAnswer (.portReset port) 0x67 (.refused .unknownItem))

/-- The three tallies cleared (R163). -/
def PartnerPort.clearTallies (pp : PartnerPort) : PartnerPort := { pp with crcTally := 0, lengthTally := 0, kindTally := 0 }

/-- TALLY_CLEAR (R158, R163). -/
def execTallyClear (port : Nat) (s : State) : Host.Outcome State Fault Refusal :=
  match Port.ofIndex port with
  | some p => .next ((s.onPort p PartnerPort.clearTallies).serviceDone (.tallyClear port) 0x68)
  | none => .next (s.serviceAnswer (.tallyClear port) 0x68 (.refused .unknownItem))

end Sys2Proof.Machine
end

