-- ==== Sys2Proof/Machine/Store.lean ====
section
/-! DEFINITION. The settings store (section 11-5): commits, wear saves and the completion of a write. -/

namespace Sys2Proof.Machine

/-- The values of the wear image as the records stand (R165, R166). -/
def WearUnit.contents (w : WearUnit) : WearContents where
  padAccount := w.wheels.map (·.account)
  padResidue := w.wheels.map (·.residue)
  padLife := w.wheels.map (·.life)
  batteryAccount := w.battery.account
  batteryResidue := w.battery.residue
  batteryLife := w.battery.life
  engineAccount := w.engine.account
  engineLife := w.engine.life

/-- A wear save is requested (R166): it begins in IDLE and FAILED, and is remembered in WRITING. -/
def State.requestWearSave (s : State) : State :=
  match s.store.phase with
  | .idle => { s with store := { s.store with phase := .writingWear s.wear.contents } }
  | .failed => { s with store := { s.store with phase := .writingWear s.wear.contents } }
  | .writingSettings _ => { s with store := { s.store with pendingSave := true } }
  | .writingWear _ => { s with store := { s.store with pendingSave := true } }

/-- COMMIT (R163, R165). -/
def execCommit (s : State) : Host.Outcome State Fault Refusal :=
  let begun := { s with store := { s.store with phase := .writingSettings s.settings } }
  match s.store.phase with
  | .idle => .next (begun.serviceDone .commit 0x6A)
  | .failed => .next (begun.serviceDone .commit 0x6A)
  | .writingSettings _ => .next (s.serviceAnswer .commit 0x6A (.refused .busy))
  | .writingWear _ => .next (s.serviceAnswer .commit 0x6A (.refused .busy))

/-- WEAR_SAVE_TIMER_EXPIRY (R166): the timer runs for 10 min. -/
def execWearSaveTimerExpiry (s : State) : Host.Outcome State Fault Refusal :=
  if s.store.saveTimer.isRunning then
    .next ({ s with store := { s.store with saveTimer := Timer.seconds 600 } }).requestWearSave
  else .next s

/-- A save that waited for the write just ended begins at once (R165). -/
def State.beginPendingSave (s : State) : State :=
  if s.store.pendingSave then
    { s with store := { s.store with pendingSave := false, phase := .writingWear s.wear.contents } }
  else s

/-- The end of the write in progress (R165): the region and its mark, and the state the store is left in. After a failure
the region's contents are free (log 8). -/
def State.endWrite (s : State) (ok : Bool) : State :=
  match s.store.phase, ok with
  | .writingSettings x, true =>
    let s := s.raiseIf s.store.settingsBad (.conditionLevelChange [.settingsBad false])
    { s with store := { s.store with phase := .idle, settingsBad := false, settingsImage := writtenSettings x } }
  | .writingSettings x, false =>
    let s := s.raiseIf (!s.store.settingsBad) (.conditionLevelChange [.settingsBad true])
    { s with
      store := { s.store with
        phase := .failed
        settingsBad := true
        settingsImage := Config.tornSettings s.freeCount s.store.settingsImage x }
      freeCount := s.freeCount + 1 }
  | .writingWear x, true =>
    let s := s.raiseIf s.store.wearBad (.conditionLevelChange [.wearBad false])
    { s with store := { s.store with phase := .idle, wearBad := false, wearImage := writtenWear x } }
  | .writingWear x, false =>
    let s := s.raiseIf (!s.store.wearBad) (.conditionLevelChange [.wearBad true])
    { s with
      store := { s.store with
        phase := .failed
        wearBad := true
        wearImage := Config.tornWear s.freeCount s.store.wearImage x }
      freeCount := s.freeCount + 1 }
  | .idle, _ => s
  | .failed, _ => s

/-- STORE_WRITE_COMPLETION (R165). With no write in progress there is none to complete (log 22). -/
def execStoreWriteCompletion (ok : Bool) (s : State) : Host.Outcome State Fault Refusal :=
  match s.store.phase with
  | .idle => .next s
  | .failed => .next s
  | .writingSettings _ => .next (s.endWrite ok).beginPendingSave
  | .writingWear _ => .next (s.endWrite ok).beginPendingSave

end Sys2Proof.Machine
end

