-- ==== Sys2Proof/Machine/Wear.lean ====
section
/-! DEFINITION. The Wear Unit (chapters 7 and 8): disc heat and pad wear, the battery and engine accounts, and the service
operations on them. -/

namespace Sys2Proof.Machine

/-! ### Figures -/

/-- The grade of an account against eighths of a life in the same unit (R124, R132, R133). -/
def gradeOf (account life : Nat) : Nat := min 7 (8 * account / life)

/-- A pad grade: the account in kJ, the life in MJ (R124). -/
def padGrade (account life : Nat) : Nat := gradeOf account (life * 1000)

/-- The battery derate of a grade, percent (R132). -/
def derateOf (grade : Nat) : Nat :=
  match grade with
  | 0 => 0
  | 1 => 0
  | 2 => 0
  | 3 => 0
  | 4 => 5
  | 5 => 10
  | 6 => 15
  | _ => 20

/-- The engine penalty of a grade (R133). -/
def penaltyOf (grade : Nat) : Nat := if 6 ≤ grade then 4 else 0

/-- The largest disc temperature estimate, sixteenths (R120). -/
def thetaMax : Nat := 16383

/-- The largest account of four bytes (R120, R130). -/
def accountMax : Nat := 4294967295

/-! ### Wheel ends -/

/-- The pad grade recomputed (R124). -/
def WheelEnd.regrade (w : WheelEnd) : WheelEnd := { w with grade := padGrade w.account w.life }

/-- The fade flag recomputed against a threshold in degrees (R125). -/
def WheelEnd.refade (w : WheelEnd) (threshold : Nat) : WheelEnd := { w with fade := decide (16 * threshold ≤ w.theta) }

/-- The any-fade level of six wheel ends (R125). -/
def anyFadeOf (x : Six WheelEnd) : Bool := x.l1.fade || x.r1.fade || x.l2.fade || x.r2.fade || x.l3.fade || x.r3.fade

/-- The changed grade and fade flag of one wheel end, for the Warning Unit (R122), the grade before the flag (log 36). -/
def wheelChanges (w : Wheel) (old new : WheelEnd) : List OwnerLevel :=
  (if old.grade = new.grade then [] else [.padGrade w new.grade]) ++
    (if old.fade = new.fade then [] else [.fade w new.fade])

/-- Six wheel ends replaced; what changed is handed on, wheel end by wheel end from 1L to 3R (R122, R125; log 36). -/
def State.setWheels (s : State) (x : Six WheelEnd) : State :=
  let old := s.wear.wheels
  let was := s.wear.anyFade
  let s := { s with wear := { s.wear with wheels := x, anyFade := anyFadeOf x } }
  let s := s.handLevels (Wheel.all.flatMap fun w => wheelChanges w (old.get w) (x.get w))
  s.raiseIf (anyFadeOf x != was) (.fadeCopyUpdate (anyFadeOf x))

/-- The weight of friction energy spent on a disc at this temperature (R124). -/
def padWeight (x : Settings) (theta : Nat) : Nat :=
  if 16 * x.hotThreshold ≤ theta then 4 else if 16 * x.warmThreshold ≤ theta then 2 else 1

/-- Weighted energy, in J, carried into a pad account (R124). -/
def WheelEnd.wearBy (w : WheelEnd) (weighted : Nat) : WheelEnd :=
  let sum := w.residue + weighted
  { w with account := min accountMax (w.account + sum / 1000), residue := sum % 1000 }

/-- The heat residue carried into the disc temperature under a heat capacity (R122, R127). -/
def WheelEnd.carryHeat (w : WheelEnd) (capacity : Nat) : WheelEnd :=
  { w with theta := min thetaMax (w.theta + w.heat / capacity), heat := w.heat % capacity }

/-- A hand-off at one wheel end, of this energy in J (R122, R124, R125). -/
def WheelEnd.absorb (w : WheelEnd) (x : Settings) (capacity energy : Nat) : WheelEnd :=
  let worn := w.wearBy (padWeight x w.theta * energy)
  (({ worn with heat := worn.heat + 16 * energy }).carryHeat capacity).regrade.refade x.fadeThreshold

/-- One value for each wheel end made from its wheel. -/
def sixOf {α : Type} (f : Wheel → α) : Six α := ⟨f .l1, f .r1, f .l2, f .r2, f .l3, f .r3⟩

/-- FRICTION_HAND_OFF (R122, R124, R125). -/
def execFrictionHandOff (powers : Six Nat) (ms : Nat) (s : State) : Host.Outcome State Fault Refusal :=
  let s := s.consume (.frictionHandOff powers ms)
  .next (s.setWheels (sixOf fun w =>
    (s.wear.wheels.get w).absorb s.settings (s.settings.heatCapacity.get w) (powers.get w * ms)))

/-- The cooling factor of a speed (R123). -/
def coolingFactor (v : Nat) : Nat := if v < 10 then 1 else if v < 100 then 2 else 3

/-- One second's cooling of a disc temperature, the ambient in sixteenths (R123). -/
def cooled (k : Nat) (ambient : Int) (theta : Nat) : Nat :=
  if ambient < (theta : Int) then theta - (((theta : Int) - ambient) * k / 256).toNat else theta

/-- COOLING_TIMER_EXPIRY (R123, R125). -/
def execCoolingTimerExpiry (s : State) : Host.Outcome State Fault Refusal :=
  if s.wear.cooling.isRunning then
    let k := coolingFactor (match s.view.traction with | some p => p.content.v | none => 0)
    let s := { s with wear := { s.wear with cooling := Timer.seconds 1 } }
    .next (s.setWheels (s.wear.wheels.map fun w =>
      ({ w with theta := cooled k (16 * s.settings.ambient) w.theta }).refade s.settings.fadeThreshold))
  else .next s

/-! ### Battery and engine -/

/-- The battery record of an account, residue and life: its grade and derate are always these figures (R132). -/
def batteryRecord (account residue life : Nat) : BatteryRecord :=
  ⟨account, residue, life, gradeOf account life, derateOf (gradeOf account life)⟩

/-- The engine record of an account and life (R133). -/
def engineRecord (account life : Nat) : EngineRecord :=
  ⟨account, life, gradeOf account life, penaltyOf (gradeOf account life)⟩

/-- A battery record replaced; a changed grade and a changed derate are handed on (R132). -/
def State.setBattery (s : State) (b : BatteryRecord) : State :=
  let old := s.wear.battery
  let s := { s with wear := { s.wear with battery := b } }
  let s := s.raiseIf (decide (b.grade ≠ old.grade)) (.conditionLevelChange [.batteryGrade b.grade])
  s.raiseIf (decide (b.derate ≠ old.derate)) .derateChange

/-- An engine record replaced; a changed grade and a changed penalty are handed on (R134). -/
def State.setEngine (s : State) (e : EngineRecord) : State :=
  let old := s.wear.engine
  let s := { s with wear := { s.wear with engine := e } }
  let s := s.raiseIf (decide (e.grade ≠ old.grade)) (.conditionLevelChange [.engineGrade e.grade])
  s.raiseIf (decide (e.penalty ≠ old.penalty)) .penaltyChange

/-- The weight of pack energy (R131). -/
def packWeight (x : Settings) (pPack temp : Int) : Nat :=
  (if x.highRate < pPack.natAbs then 2 else 1) * (if x.packHot < temp then 2 else 1)

/-- A battery record after weighted energy in J (R131, R132). -/
def BatteryRecord.pass (b : BatteryRecord) (weighted : Nat) : BatteryRecord :=
  let sum := b.residue + weighted
  batteryRecord (min accountMax (b.account + sum / 1000000)) (sum % 1000000) b.life

/-- PACK_HAND_OFF (R131, R132, R137). -/
def execPackHandOff (pPack temp : Int) (dt : Nat) (s : State) : Host.Outcome State Fault Refusal :=
  let s := s.consume (.packHandOff pPack temp dt)
  if s.loaded ∧ dt ≠ 0 ∧ pPack ≠ 0 then
    .next (s.setBattery (s.wear.battery.pass (packWeight s.settings pPack temp * (pPack.natAbs * dt))))
  else .next s

/-- START_POINTS_HAND_OFF (R133, R134). -/
def execStartPointsHandOff (points : Nat) (s : State) : Host.Outcome State Fault Refusal :=
  let s := s.consume (.startPointsHandOff points)
  if s.loaded then
    .next (s.setEngine (engineRecord (min 65535 (s.wear.engine.account + points)) s.wear.engine.life))
  else .next s

/-! ### Service operations (R126, R127, R135, R136) -/

/-- One wheel end changed, or with COPY all six (R127). -/
def onWheels (x : Six WheelEnd) (w : Wheel) (copy : Bool) (f : WheelEnd → WheelEnd) : Six WheelEnd :=
  if copy then x.map f else x.set w (f (x.get w))

/-- A pad account written (R127); a COPY write makes one request of a wear save for the six (log 35). -/
def State.writePadAccountOp (s : State) (w : Wheel) (copy : Bool) (value : Int) : State :=
  let v := (writtenIn 0 4294967295 value).value.toNat
  (s.setWheels (onWheels s.wear.wheels w copy fun e => ({ e with account := v, residue := 0 }).regrade)).requestWearSave

/-- WRITE_PAD_ACCOUNT (R127, R162, R166). -/
def execWritePadAccount (w : Wheel) (copy : Bool) (value : Int) (s : State) : Host.Outcome State Fault Refusal :=
  .next ((s.writePadAccountOp w copy value).writeDone (.writePadAccount w copy value) (writtenIn 0 4294967295 value).clamped)

/-- A pad life written (R127); a COPY write makes one request of a wear save for the six (log 35). -/
def State.writePadLifeOp (s : State) (w : Wheel) (copy : Bool) (value : Int) : State :=
  let v := (writtenIn 1 65535 value).value.toNat
  (s.setWheels (onWheels s.wear.wheels w copy fun e => ({ e with life := v }).regrade)).requestWearSave

/-- WRITE_PAD_LIFE (R127, R162, R166). -/
def execWritePadLife (w : Wheel) (copy : Bool) (value : Int) (s : State) : Host.Outcome State Fault Refusal :=
  .next ((s.writePadLifeOp w copy value).writeDone (.writePadLife w copy value) (writtenIn 1 65535 value).clamped)

/-- A heat capacity written, and the heat residue carried at once under it (R127). -/
def State.writeHeatCapacityOp (s : State) (w : Wheel) (copy : Bool) (value : Int) : State :=
  let c := (writtenIn 1000 65535 value).value.toNat
  let capacity := if copy then Six.fill c else s.settings.heatCapacity.set w c
  let s := { s with settings := { s.settings with heatCapacity := capacity } }
  s.setWheels (onWheels s.wear.wheels w copy fun e => (e.carryHeat c).refade s.settings.fadeThreshold)

/-- WRITE_HEAT_CAPACITY (R127, R162). -/
def execWriteHeatCapacity (w : Wheel) (copy : Bool) (value : Int) (s : State) : Host.Outcome State Fault Refusal :=
  .next ((s.writeHeatCapacityOp w copy value).writeDone (.writeHeatCapacity w copy value) (writtenIn 1000 65535 value).clamped)

/-- The battery account written (R136). -/
def State.writeBatteryAccountOp (s : State) (value : Int) : State :=
  (s.setBattery (batteryRecord (writtenIn 0 4294967295 value).value.toNat 0 s.wear.battery.life)).requestWearSave

/-- WRITE_BATTERY_ACCOUNT (R136, R162, R166). -/
def execWriteBatteryAccount (value : Int) (s : State) : Host.Outcome State Fault Refusal :=
  .next ((s.writeBatteryAccountOp value).writeDone (.writeBatteryAccount value) (writtenIn 0 4294967295 value).clamped)

/-- The battery life written (R136). -/
def State.writeBatteryLifeOp (s : State) (value : Int) : State :=
  (s.setBattery (batteryRecord s.wear.battery.account s.wear.battery.residue
    (writtenIn 1 100000000 value).value.toNat)).requestWearSave

/-- WRITE_BATTERY_LIFE (R136, R162, R166). -/
def execWriteBatteryLife (value : Int) (s : State) : Host.Outcome State Fault Refusal :=
  .next ((s.writeBatteryLifeOp value).writeDone (.writeBatteryLife value) (writtenIn 1 100000000 value).clamped)

/-- The engine account written (R136). -/
def State.writeEngineAccountOp (s : State) (value : Int) : State :=
  (s.setEngine (engineRecord (writtenIn 0 65535 value).value.toNat s.wear.engine.life)).requestWearSave

/-- WRITE_ENGINE_ACCOUNT (R136, R162, R166). -/
def execWriteEngineAccount (value : Int) (s : State) : Host.Outcome State Fault Refusal :=
  .next ((s.writeEngineAccountOp value).writeDone (.writeEngineAccount value) (writtenIn 0 65535 value).clamped)

/-- The engine life written (R136). -/
def State.writeEngineLifeOp (s : State) (value : Int) : State :=
  (s.setEngine (engineRecord s.wear.engine.account (writtenIn 1 65535 value).value.toNat)).requestWearSave

/-- WRITE_ENGINE_LIFE (R136, R162, R166). -/
def execWriteEngineLife (value : Int) (s : State) : Host.Outcome State Fault Refusal :=
  .next ((s.writeEngineLifeOp value).writeDone (.writeEngineLife value) (writtenIn 1 65535 value).clamped)

/-- The fade threshold written, and applied at once to all six wheel ends (R125, R128). -/
def State.writeFadeThresholdOp (s : State) (value : Int) : State :=
  let v := (writtenIn 0 1023 value).value.toNat
  let s := { s with settings := { s.settings with fadeThreshold := v } }
  s.setWheels (s.wear.wheels.map fun e => e.refade v)

/-- WRITE_FADE_THRESHOLD (R125, R162). -/
def execWriteFadeThreshold (value : Int) (s : State) : Host.Outcome State Fault Refusal :=
  .next ((s.writeFadeThresholdOp value).writeDone (.writeFadeThreshold value) (writtenIn 0 1023 value).clamped)

/-- The ambient in sixteenths, or 0 if that is negative (R126). -/
def ambientTheta (x : Settings) : Nat := (16 * x.ambient).toNat

/-- A pad replaced at one wheel end (R126). -/
def WheelEnd.renew (e : WheelEnd) (x : Settings) : WheelEnd :=
  let fresh := { e with account := 0, residue := 0 }
  let still := if e.theta < 16 * x.warmThreshold then { fresh with theta := ambientTheta x, heat := 0 } else fresh
  still.regrade.refade x.fadeThreshold

/-- The pads of one wheel end, or with COPY of all six, reset: one wear save (R126, R163). -/
def State.resetPads (s : State) (w : Wheel) (copy : Bool) : State :=
  (s.setWheels (onWheels s.wear.wheels w copy fun e => e.renew s.settings)).requestWearSave

/-- WEAR_RESET of a pad account (R126, R163): an account that does not exist is refused. -/
def execWearResetPad (account : Nat) (copy : Bool) (s : State) : Host.Outcome State Fault Refusal :=
  match Wheel.ofIndex account with
  | some w => .next ((s.resetPads w copy).serviceDone (.wearResetPad account copy) 0x63)
  | none => .next (s.serviceAnswer (.wearResetPad account copy) 0x63 (.refused .unknownItem))

/-- WEAR_RESET of the battery account (R135, R163). -/
def execWearResetBattery (s : State) : Host.Outcome State Fault Refusal :=
  .next ((s.setBattery (batteryRecord 0 0 s.wear.battery.life)).requestWearSave.serviceDone .wearResetBattery 0x63)

/-- WEAR_RESET of the engine account (R135, R163). -/
def execWearResetEngine (s : State) : Host.Outcome State Fault Refusal :=
  .next ((s.setEngine (engineRecord 0 s.wear.engine.life)).requestWearSave.serviceDone .wearResetEngine 0x63)

end Sys2Proof.Machine
end

