-- ==== Sys2Proof/Machine/Items.lean ====
section
/-! DEFINITION. The item map of the Service port (R160 to R162): what each item reads, and what a write does. Enumerated values
read as their places in their rules' lists, absent fields as -1 (log 17). -/

namespace Sys2Proof.Machine

/-- An absent field (R161). -/
def absentItem : Int := -1

/-- A field that may be absent. -/
def optItem (x : Option Nat) : Int :=
  match x with
  | some n => num n
  | none => absentItem

/-- The first three fields of a place: presence, freshness mark, age (R161). -/
def State.placeItems {α : Type} (s : State) (p : Option (Place α)) : List Int :=
  match p with
  | none => [0, absentItem, absentItem]
  | some x => [1, flag x.held, num (s.age x)]

/-- The age of a list (R161). -/
def State.ageItem {α : Type} (s : State) (p : Option (Place α)) : Int :=
  match p with
  | none => absentItem
  | some x => num (s.age x)

def TractionReport.items (r : TractionReport) : List Int :=
  [num r.v, num r.pReq, num r.pMin, flag r.giveBack, num r.rMot, r.motorTemp]

def PackReport.items (r : PackReport) : List Int := [num r.soc, r.temp, r.pPack, num r.aAcc]

/-- Condition codes (R4). -/
def conditionCode : EngineCondition → Nat
  | .stopped => 0 | .cranking => 1 | .running => 2 | .fault => 3

def GensetReport.items (r : GensetReport) : List Int := [num (conditionCode r.condition), r.coolant, optItem r.fault]

def BrakeDemand.items (r : BrakeDemand) : List Int :=
  [num r.d, num r.m, num r.load1, num r.load2, num r.load3, flag r.abs1, flag r.abs2, flag r.abs3, flag r.parking]

/-- The fields of a place, `n` absent ones when it is absent. -/
def fieldsOf {α : Type} (p : Option (Place α)) (n : Nat) (f : α → List Int) : List Int :=
  match p with
  | none => List.replicate n absentItem
  | some x => f x.content

/-- The seven fields of an offer entry (R161). -/
def Offer.items (o : Offer) : List Int :=
  [flag o.duration.isSome, optItem o.duration, num o.power, num o.cost, flag o.quiet, flag o.excluded, flag o.expired]

/-- The entries of a list, each 8 numbers after the one before, from a first number (R161). -/
def entryBlocks (first : Nat) (list : Option (Place (List Offer))) : List (Nat × List Int) :=
  (List.range 6).map fun i =>
    (first + 8 * i, match entryAt list (i + 1) with | some o => o.items | none => List.replicate 7 absentItem)

/-- A list's count, 0 when absent (R18). -/
def countItem (list : Option (Place (List Offer))) : Int := num (entries list).length

/-- The traction reference (R161). -/
def referenceItems (r : Option (Nat × Nat)) : List Int :=
  match r with
  | none => [0, absentItem, absentItem]
  | some (req, min) => [1, num req, num min]

/-- The reports, lists and reference: 0x000 to 0x0FF. -/
def State.viewBlocks (s : State) : List (Nat × List Int) :=
  [(0x000, s.placeItems s.view.traction ++ fieldsOf s.view.traction 6 TractionReport.items),
    (0x010, s.placeItems s.view.pack ++ fieldsOf s.view.pack 4 PackReport.items),
    (0x020, s.placeItems s.view.genset ++ fieldsOf s.view.genset 3 GensetReport.items),
    (0x030, s.placeItems s.view.brake ++ fieldsOf s.view.brake 9 BrakeDemand.items),
    (0x040, [countItem s.view.storage, s.ageItem s.view.storage])] ++
    entryBlocks 0x048 s.view.storage ++
    [(0x080, [countItem s.view.gensetList, s.ageItem s.view.gensetList])] ++
    entryBlocks 0x088 s.view.gensetList ++
    [(0x0C0, referenceItems s.view.reference)]

/-! ### Contract Unit -/

/-- Mismatch reasons, SHORT_SUPPLY first as R34 lists them (log 17). -/
def mismatchCode : Mismatch → Nat
  | .shortSupply => 0 | .belowMinimum => 1

/-- The sixteen fields of a contract or proposal (R161). -/
def contractItems (number : Nat) (t : Terms) : List Int :=
  [num number, num t.basisReq, num t.basisMin, num t.grant, num t.storageIndex, num t.share, optItem t.gensetIndex,
    num t.commitment, num t.aux, num t.charge, num t.ceiling, num (modeCode t.mode), flag t.mismatch.isSome,
    optItem (t.mismatch.map mismatchCode), flag t.reduced, optItem t.peak]

/-- The round state and its proposal count (R42, R161). -/
def Round.items : Round → List Int
  | .idle => [0, absentItem]
  | .resting => [1, absentItem]
  | .inRound n => [2, num n]

def DeclineReason.code : DeclineReason → Nat
  | .overLimit => 0 | .notReady => 1 | .thermal => 2 | .other => 3 | .timeout => 4 | .lost => 5

def SelectionOutcome.code : SelectionOutcome → Nat
  | .notRun => 0 | .propose => 1 | .same => 2 | .noTerms => 3

def SelectionReason.code : SelectionReason → Nat
  | .shortSupply => 0 | .belowMinimum => 1 | .noStorageOffer => 2 | .supplyBelowAux => 3

def LastSelection.items (r : LastSelection) : List Int :=
  [num r.outcome.code, optItem (r.reason.map SelectionReason.code), optItem r.storageIndex, optItem r.gensetIndex,
    num r.formed, num r.covered]

/-- The effective acceptance at the read, absent with the pack report (R21). -/
def State.acceptanceItem (s : State) : Int :=
  match s.view.pack with
  | none => absentItem
  | some p => num (derated s.derate p.content.aAcc)

/-- The effective power of a storage entry at the read (R21). -/
def State.effItem (s : State) (index : Nat) : Int :=
  match entryAt s.view.storage index with
  | none => absentItem
  | some o => num (derated s.derate o.power)

/-- The contract protocol and selection: 0x100 to 0x1FF. -/
def State.contractBlocks (s : State) : List (Nat × List Int) :=
  [(0x100, num s.cu.gate.code :: s.cu.round.items ++ [flag s.cu.settled, num s.cu.counter]),
    (0x110, match s.cu.active with | some c => contractItems c.number c.terms | none => List.replicate 16 absentItem),
    (0x120, match s.cu.proposal with | some p => contractItems p.number p.terms | none => List.replicate 16 absentItem),
    (0x130, match s.cu.proposal with | some p => [p.required.code, p.accepted.code] | none => [absentItem, absentItem]),
    (0x138, match s.cu.lastDecline with
      | some d => [d.ports.code, num d.reason.code, num d.number]
      | none => List.replicate 3 absentItem),
    (0x13C, match s.cu.lastDrop with | some d => [num d.reason.code, num d.number] | none => [absentItem, absentItem]),
    (0x140, s.cu.lastSelection.items),
    (0x148, [flag s.cu.chargeNeed, flag s.cu.gensetWanted, s.acceptanceItem]),
    (0x150, (List.range 6).map fun i => s.effItem (i + 1))]

/-! ### Genset Sequencer, auxiliary outputs, blend -/

def StartCause.code : StartCause → Nat
  | .none => 0 | .demand => 1 | .charge => 2 | .service => 3

def StopCause.code : StopCause → Nat
  | .none => 0 | .idleOff => 1 | .quietZone => 2 | .keyOff => 3 | .fault => 4 | .noStart => 5 | .portLost => 6

def wantCode : WantCause → Nat
  | .demand => 0 | .charge => 1

/-- 0x200 to 0x20E. -/
def Sequencer.items (g : Sequencer) : List Int :=
  [num g.state.code, num g.attempts, flag g.wantedCopy, optItem (g.wantCause.map wantCode), num g.heldKw,
    optItem g.heldIndex, num g.startCause.code, num g.stopCause.code, optItem g.lockoutCode, g.activity.code,
    g.crank.remaining, g.rest.remaining, g.warm.remaining, g.idleOff.remaining, g.cooldown.remaining]

/-- The drive state (R93, R97). -/
def Lines.driveState : Lines → Int
  | .highZ => 0
  | .driven _ => 1

/-- The output view (R97): all lines disabled while high-impedance. -/
def State.outputView (s : State) : BitVec 8 :=
  match s.aux.lines with
  | .highZ => 0#8
  | .driven _ => s.settings.vectors.get s.aux.mode

/-- 0x280 to 0x286. -/
def State.auxItems (s : State) : List Int :=
  [num (modeCode s.aux.mode), s.aux.lines.driveState, num s.outputView.toNat, num s.aux.allowances.electric,
    num s.aux.allowances.hybrid, num s.aux.allowances.charge, num s.aux.allowances.safe]

def RampStep.code : RampStep → Nat
  | .none => 0 | .up => 1 | .upDoubled => 2 | .down => 3 | .downDoubled => 4 | .held => 5

/-- 0x300 to 0x31F. -/
def BlendUnit.items (b : BlendUnit) : List Int :=
  let r := b.result
  [num r.pDem, num r.rMotor, num r.rStorage, num r.rAdhesion, num r.target, num r.applied, num r.dRegen, num r.dFriction,
    num r.friction, num r.axle1, num r.axle2, num r.axle3] ++
    r.wheels.toList.map num ++
    [num b.step.code, flag b.clipped, b.forced.code] ++
    (match b.regenCopy with | some (x, d) => [1, num x, num d] | none => [0, absentItem, absentItem]) ++
    (match b.frictionCopy with
      | some c => [1, num c.dFriction, num c.friction, num c.axle1, num c.axle2, num c.axle3]
      | none => 0 :: List.replicate 5 absentItem) ++
    [flag b.fade, b.timer.remaining]

/-! ### Wear, warnings, ports, store -/

/-- 0x380 to 0x3C9. -/
def State.wheelBlocks (s : State) : List (Nat × List Int) :=
  let six := fun (f : WheelEnd → Int) => (s.wear.wheels.map f).toList
  [(0x380, six fun e => num e.theta), (0x388, six fun e => num (e.theta / 16)), (0x390, six fun e => num e.heat),
    (0x398, six fun e => num e.account), (0x3A0, six fun e => num e.residue), (0x3A8, six fun e => num e.life),
    (0x3B0, s.settings.heatCapacity.toList.map num), (0x3B8, six fun e => num e.grade), (0x3C0, six fun e => flag e.fade),
    (0x3C8, [flag s.wear.anyFade, s.wear.cooling.remaining])]

/-- 0x400 to 0x408. -/
def WearUnit.items (w : WearUnit) : List Int :=
  [num w.battery.account, num w.battery.residue, num w.battery.life, num w.battery.grade, num w.battery.derate,
    num w.engine.account, num w.engine.life, num w.engine.grade, num w.engine.penalty]

/-- The group of a warning code (R139): WHEEL, POWERTRAIN, LINK, STORE. -/
def groupCode (code : Nat) : Nat := if code ≤ 12 then 0 else if code ≤ 17 then 1 else if code ≤ 21 then 2 else 3

/-- The warning table: 0x440 to 0x4A4. -/
def WarningUnit.blocks (w : WarningUnit) : List (Nat × List Int) :=
  [(0x440, (List.range 23).flatMap fun i =>
      [num (i + 1), num (groupCode (i + 1)), flag (w.levels.getLsbD i), flag (w.latched.getLsbD i)]),
    (0x4A0, [flag w.summaries.wheel, flag w.summaries.powertrain, flag w.summaries.link, flag w.summaries.store,
      flag w.serviceLow])]

/-- The eight items of a partner port (R158, R161). -/
def PartnerPort.items (pp : PartnerPort) : List Int :=
  [num (portCode pp.state), num pp.crcTally, num pp.lengthTally, num pp.kindTally, flag pp.overrun, pp.silence.remaining,
    flag pp.attentionLow, num pp.queue.length]

def StorePhase.code : StorePhase → Nat
  | .idle => 0
  | .writingSettings _ => 1
  | .writingWear _ => 1
  | .failed => 2

/-- 0x600 to 0x605. -/
def State.storeItems (s : State) : List Int :=
  [flag s.quiet, num s.store.phase.code, flag s.store.settingsBad, flag s.store.wearBad, flag s.store.pendingSave,
    s.store.saveTimer.remaining]

/-- The settings: 0x500 to 0x5FF. -/
def Settings.blocks (x : Settings) : List (Nat × List Int) :=
  [(0x500, [num x.activityRise, num x.hysteresis, num x.chargeStart, num x.chargeStop, num x.criticalMark]),
    (0x508, [num x.chargeTarget, num x.regenCap, num x.window]),
    (0x510, [num x.crank, num x.warm, num x.cooldown, num x.quietCooldown, x.warmTemp, num x.idleOffCode,
      flag x.maskTractionRise, flag x.maskBrakeRelease, flag x.maskSocLow, flag x.maskService]),
    (0x520, [num x.vectors.electric.toNat, num x.vectors.hybrid.toNat, num x.vectors.charge.toNat, num x.vectors.safe.toNat]),
    (0x528, (List.range 8).map fun i => num (x.draws.getD i 0)),
    (0x530, (List.range 8).map fun i => flag (x.polarity.getLsbD i)),
    (0x540, [num x.blendPeriod, num x.vLo, num x.vHi, num x.eta, num x.driveShare, num x.hotShare, num x.upSlope,
      num x.downSlope, num x.catchUp]),
    (0x550, [x.ambient, num x.restartMargin, num x.warmThreshold, num x.hotThreshold, num x.fadeThreshold]),
    (0x558, [num x.highRate, x.packHot]),
    (0x560, (List.range 23).map fun i => (x.edges.getD i .rise).code),
    (0x580, (List.range 23).map fun i => num (x.masks.getD i 0#5).toNat),
    (0x5A0, [num x.padWarn, num x.batteryWarn, num x.engineWarn, flag x.globalMask]),
    (0x5B0, [num x.silenceWindow]),
    (0x5B8, [num x.address])]

/-- The whole map (R161). -/
def State.itemBlocks (s : State) : List (Nat × List Int) :=
  s.viewBlocks ++ s.contractBlocks ++
    [(0x200, s.gs.items), (0x280, s.auxItems), (0x300, s.blend.items)] ++ s.wheelBlocks ++ [(0x400, s.wear.items)] ++
    s.warn.blocks ++
    [(0x4C0, (s.port .traction).items), (0x4D0, (s.port .pack).items), (0x4E0, (s.port .genset).items),
      (0x4F0, (s.port .brake).items)] ++
    s.settings.blocks ++ [(0x600, s.storeItems)]

/-- The value at a number of the map. -/
def lookupItem (n : Nat) : List (Nat × List Int) → Option Int
  | [] => none
  | (first, values) :: rest => if first ≤ n ∧ n < first + values.length then values[n - first]? else lookupItem n rest

/-- What an item reads; none for a number the map does not assign (R161). -/
def State.readItem (s : State) (n : Nat) : Option Int := lookupItem n s.itemBlocks

/-! ### READ_ITEM (R162) -/

/-- The activity latches cleared by a read (R75). -/
def State.clearActivity (s : State) : State :=
  s.onGs fun g => { g with activity := ⟨false, false, false, false⟩ }

/-- READ_ITEM (R161, R162); the activity status is 0x209 (R75). -/
def execReadItem (item : Nat) (s : State) : Host.Outcome State Fault Refusal :=
  match s.readItem item with
  | none => .next (s.serviceAnswer (.readItem item) 0x60 (.refused .unknownItem))
  | some v =>
    let t := s.serviceAnswer (.readItem item) 0x60 .done false (le32 v)
    .next (if item = 0x209 then t.clearActivity else t)

/-- A READ_ITEM of the activity status (R75, R162): the latches as they stand, then cleared. -/
def execActivityStatusRead (s : State) : Host.Outcome State Fault Refusal :=
  .next (s.serviceAnswer .activityStatusRead 0x60 .done false (le32 s.gs.activity.code)).clearActivity

/-! ### WRITE_ITEM (R162) -/


/-- The range of a setting that a plain WRITE_ITEM stores (R161), for CLAMPED. The blend period and the silence window have
rules of their own (R99, R156). -/
def settingRange (item : Nat) : Option (Int × Int) :=
  match item with
  | 0x500 => some (5, 100)
  | 0x501 => some (0, 50)
  | 0x508 => some (0, 1023)
  | 0x509 => some (0, 1023)
  | 0x50A => some (50, 1000)
  | 0x510 => some (2, 15)
  | 0x511 => some (10, 600)
  | 0x512 => some (5, 300)
  | 0x513 => some (1, 30)
  | 0x514 => some (0, 120)
  | 0x515 => some (0, 15)
  | 0x516 => some (0, 1)
  | 0x517 => some (0, 1)
  | 0x518 => some (0, 1)
  | 0x519 => some (0, 1)
  | 0x541 => some (0, 300)
  | 0x542 => some (0, 300)
  | 0x543 => some (70, 100)
  | 0x544 => some (0, 100)
  | 0x545 => some (0, 100)
  | 0x546 => some (1, 255)
  | 0x547 => some (1, 255)
  | 0x548 => some (0, 1023)
  | 0x550 => some (-40, 200)
  | 0x551 => some (0, 200)
  | 0x552 => some (0, 1023)
  | 0x553 => some (0, 1023)
  | 0x558 => some (0, 1023)
  | 0x559 => some (-40, 200)
  | 0x5B8 => some (0, 127)
  | n => if 0x560 ≤ n ∧ n ≤ 0x576 then some (0, 2) else none

/-- The settings with a setting of `settingRange`'s at a value within its range. -/
def Settings.withItem (x : Settings) (item : Nat) (v : Int) : Settings :=
  match item with
  | 0x500 => { x with activityRise := v.toNat }
  | 0x501 => { x with hysteresis := v.toNat }
  | 0x508 => { x with chargeTarget := v.toNat }
  | 0x509 => { x with regenCap := v.toNat }
  | 0x50A => { x with window := v.toNat }
  | 0x510 => { x with crank := v.toNat }
  | 0x511 => { x with warm := v.toNat }
  | 0x512 => { x with cooldown := v.toNat }
  | 0x513 => { x with quietCooldown := v.toNat }
  | 0x514 => { x with warmTemp := v }
  | 0x515 => { x with idleOffCode := v.toNat }
  | 0x516 => { x with maskTractionRise := decide (v = 1) }
  | 0x517 => { x with maskBrakeRelease := decide (v = 1) }
  | 0x518 => { x with maskSocLow := decide (v = 1) }
  | 0x519 => { x with maskService := decide (v = 1) }
  | 0x541 => { x with vLo := v.toNat }
  | 0x542 => { x with vHi := v.toNat }
  | 0x543 => { x with eta := v.toNat }
  | 0x544 => { x with driveShare := v.toNat }
  | 0x545 => { x with hotShare := v.toNat }
  | 0x546 => { x with upSlope := v.toNat }
  | 0x547 => { x with downSlope := v.toNat }
  | 0x548 => { x with catchUp := v.toNat }
  | 0x550 => { x with ambient := v }
  | 0x551 => { x with restartMargin := v.toNat }
  | 0x552 => { x with warmThreshold := v.toNat }
  | 0x553 => { x with hotThreshold := v.toNat }
  | 0x558 => { x with highRate := v.toNat }
  | 0x559 => { x with packHot := v }
  | 0x5B8 => { x with address := v.toNat }
  | n => { x with edges := x.edges.set (n - 0x560) (Edge.ofInt v) }

/-- A setting that is only stored (R162): the settings, and whether the value was clamped; none for any other item. -/
def writeSetting (x : Settings) (item : Nat) (value : Int) : Option (Settings × Bool) :=
  match item with
  | 0x540 => some ({ x with blendPeriod := (writtenBlendPeriod value).value.toNat }, (writtenBlendPeriod value).clamped)
  | 0x5B0 => some ({ x with silenceWindow := (writtenSilenceWindow value).value.toNat }, (writtenSilenceWindow value).clamped)
  | n => (settingRange n).map fun (lo, hi) => (x.withItem n (writtenIn lo hi value).value, (writtenIn lo hi value).clamped)

/-- A write to a writable item, and whether its value was clamped; none for any other item (R162). The items with a row of
their own are taken by the operation of that row. -/
def State.writeItemOp (s : State) (item : Nat) (copy : Bool) (value : Int) : Option (State × Bool) :=
  match writeCommand item copy value with
  | .writeChargeMark m v => some (s.writeChargeMarkOp m v, (writtenIn 0 1000 v).clamped)
  | .writeCriticalMark v => some (s.writeCriticalMarkOp v, (writtenIn 0 1000 v).clamped)
  | .writeModeVector m v => some (s.writeModeVectorOp m v, false)
  | .writeRatedDraw l v => some (s.writeRatedDrawOp l v, (writtenIn 0 63 v).clamped)
  | .writePolarity l v => some (s.writePolarityOp l v, (writtenIn 0 1 v).clamped)
  | .writeFadeThreshold v => some (s.writeFadeThresholdOp v, (writtenIn 0 1023 v).clamped)
  | .writePadAccount w c v => some (s.writePadAccountOp w c v, (writtenIn 0 4294967295 v).clamped)
  | .writePadLife w c v => some (s.writePadLifeOp w c v, (writtenIn 1 65535 v).clamped)
  | .writeHeatCapacity w c v => some (s.writeHeatCapacityOp w c v, (writtenIn 1000 65535 v).clamped)
  | .writeBatteryAccount v => some (s.writeBatteryAccountOp v, (writtenIn 0 4294967295 v).clamped)
  | .writeBatteryLife v => some (s.writeBatteryLifeOp v, (writtenIn 1 100000000 v).clamped)
  | .writeEngineAccount v => some (s.writeEngineAccountOp v, (writtenIn 0 65535 v).clamped)
  | .writeEngineLife v => some (s.writeEngineLifeOp v, (writtenIn 1 65535 v).clamped)
  | .writeWarnGrade k v => some (s.writeWarnGradeOp k v, (writtenIn 1 7 v).clamped)
  | .writeDeliveryMask t v => some (s.writeMaskOp t v, maskClamped t v)
  | _ => (writeSetting s.settings item value).map fun (x, c) => ({ s with settings := x }, c)

/-- WRITE_ITEM (R18, R86, R97, R119, R162): an unknown number and a read-only item are refused. -/
def execWriteItem (item : Nat) (copy : Bool) (value : Int) (s : State) : Host.Outcome State Fault Refusal :=
  match s.writeItemOp item copy value with
  | some (t, clamped) => .next (t.writeDone (.writeItem item copy value) clamped)
  | none =>
    if (s.readItem item).isSome then .next (s.serviceAnswer (.writeItem item copy value) 0x61 (.refused .readOnly))
    else .next (s.serviceAnswer (.writeItem item copy value) 0x61 (.refused .unknownItem))

end Sys2Proof.Machine
end

