-- ==== Sys2Proof/Machine/Service.lean ====
section
/-! DEFINITION. The Service port's link (section 11-2), its STATUS_QUERY, and the quiet zone (R164). -/

namespace Sys2Proof.Machine

/-- Change what the Service port holds. -/
def State.onSvc (s : State) (f : ServicePort → ServicePort) : State := { s with svc := f s.svc }

/-- The port answers at its address, once the load has ended (R159, R167). -/
def State.addressed (s : State) (addr : Nat) : Bool := s.loaded && s.svc.address == addr

/-- What a transaction at another address shows: nothing (R159). -/
def ServicePort.silent (v : ServicePort) : ServicePort := { v with addressAck := false, dataAck := false, lastOut := [] }

/-- A frame taken at the stop of a write (R159, R160): checked, a NOP answered by the port, and anything else in process. -/
def ServicePort.takeFrame (v : ServicePort) (bytes : List Byte) : ServicePort :=
  let v := { v with addressAck := true, dataAck := true, lastOut := [] }
  match checkFrame serviceLength bytes with
  | .error cls => { v with reply := some (.frameError cls) }
  | .ok (kind, payload) =>
    match decodeService kind payload with
    | none => { v with reply := some (.answer 0x01 .done false []) }
    | some i => { v with reply := none, inProcess := some i }

/-- SERVICE_WRITE (R159, R160, R167). -/
def execServiceWrite (addr : Nat) (bytes : List Byte) (s : State) : Host.Outcome State Fault Refusal :=
  if s.addressed addr then
    match s.svc.inProcess with
    | some _ => .next (s.onSvc fun v => { v with addressAck := true, dataAck := false, lastOut := [] })
    | none => .next (s.onSvc fun v => v.takeFrame bytes)
  else .next (s.onSvc ServicePort.silent)

/-- A frame sent to a read of `n` bytes (R159). -/
def ServicePort.send (v : ServicePort) (frame : List Byte) (n : Nat) : ServicePort :=
  { v with addressAck := true, lastOut := clocked frame n }

/-- SERVICE_READ (R159, R167). -/
def execServiceRead (addr count : Nat) (s : State) : Host.Outcome State Fault Refusal :=
  if s.addressed addr then
    match s.svc.reply, s.svc.inProcess with
    | some r, _ =>
      .next (s.onSvc fun v =>
        { (v.send (r.frame false) count) with reply := if (r.frame false).length ≤ count then none else some r })
    | none, some _ =>
      .next (s.onSvc fun v => { v with addressAck := true, lastOut := [], hold := some count, holdTimer := .running 2 })
    | none, none => .next (s.onSvc fun v => v.send (idleFrame .up s.cu.gate) count)
  else .next (s.onSvc ServicePort.silent)

/-- SERVICE_READ_HOLD_TIMEOUT (R159): the clock is released and NOT_READY sent; the request goes on. -/
def execServiceReadHoldTimeout (s : State) : Host.Outcome State Fault Refusal :=
  match s.svc.hold with
  | none => .next s
  | some n =>
    if s.svc.holdTimer.isRunning then
      .next (s.onSvc fun v => { (v.send notReadyFrame n) with hold := none, holdTimer := .stopped })
    else .next s

/-- The six bytes of the Service port's status (R160). -/
def State.serviceStatus (s : State) : List Byte :=
  [BitVec.ofNat 8 s.cu.gate.code, BitVec.ofNat 8 s.cu.activeNumber, BitVec.ofNat 8 s.cu.proposalNumber,
    BitVec.ofNat 8 s.store.phase.code,
    BitVec.ofNat 8 (flagByte [s.store.settingsBad, s.store.wearBad, s.store.pendingSave, s.quiet]),
    BitVec.ofNat 8 s.gs.state.code]

/-- SERVICE_STATUS_QUERY (R160). -/
def execServiceStatusQuery (s : State) : Host.Outcome State Fault Refusal :=
  .next (s.serviceAnswer .serviceStatusQuery 0x02 .status false s.serviceStatus)

/-- A change of the quiet zone, handed to the Contract Unit and the Genset Sequencer (R164). -/
def State.changeQuiet (s : State) (on : Bool) : State :=
  if s.quiet = on then s else (({ s with quiet := on }).raise .quietZoneChange).raise (.quietZoneSequencer on)

/-- SET_QUIET_ZONE (R163, R164). -/
def execSetQuietZone (on : Bool) (s : State) : Host.Outcome State Fault Refusal :=
  .next ((s.changeQuiet on).serviceDone (.setQuietZone on) 0x66)

end Sys2Proof.Machine
end

