-- ==== Sys2Proof/Machine/Reset.lean ====
section
/-! DEFINITION. The pins and the resets: power-on, the end of the load (R167), the KEY input (R61, R80, R166) and
DRIVELINE_RESET (R62, R82, R157). -/

namespace Sys2Proof.Machine

/-! ### POWER_ON_RESET (R165, R167) -/

/-- A settings region whose check word does not agree (R165). -/
def spoilSettings (i : Image Settings) : Image Settings := if settingsImageGood i then { i with check := ~~~i.check } else i

/-- A wear region whose check word does not agree (R165). -/
def spoilWear (i : Image WearContents) : Image WearContents := if wearImageGood i then { i with check := ~~~i.check } else i

/-- The regions after power-on or RESET: one being written is left with free contents, and after a loss of power with a check
word that does not agree (R165; log 8). -/
def Store.interrupted (t : Store) (cause : ResetCause) (free : Nat) : Store :=
  let kept := { Store.reset with settingsImage := t.settingsImage, wearImage := t.wearImage }
  match t.phase, cause with
  | .idle, _ => kept
  | .failed, _ => kept
  | .writingSettings x, .powerOn => { kept with settingsImage := spoilSettings (Config.tornSettings free t.settingsImage x) }
  | .writingSettings x, .resetInput => { kept with settingsImage := Config.tornSettings free t.settingsImage x }
  | .writingWear x, .powerOn => { kept with wearImage := spoilWear (Config.tornWear free t.wearImage x) }
  | .writingWear x, .resetInput => { kept with wearImage := Config.tornWear free t.wearImage x }

/-- POWER_ON_RESET (R167): every block at its power-on state; the KEY pin and the regions are outside it (log 7). -/
def execPowerOnReset (cause : ResetCause) (s : State) : Host.Outcome State Fault Refusal :=
  .next { State.reset with
    key := s.key
    store := s.store.interrupted cause s.freeCount
    freeCount := s.freeCount + 1
    pending := s.pending }

/-! ### SETTINGS_LOAD_END (R167) -/

/-- The settings loaded, and whether the image was bad (R167). -/
def Store.loadSettings (t : Store) : Settings × Bool :=
  if settingsImageGood t.settingsImage then (clampSettings t.settingsImage.contents, false) else (Settings.default, true)

/-- The wear contents loaded, and whether the image was bad (R167). -/
def Store.loadWear (t : Store) : WearContents × Bool :=
  if wearImageGood t.wearImage then (clampWear t.wearImage.contents, false) else (WearContents.default, true)

/-- The disc temperature a wheel end starts from (R121). -/
def startTheta (x : Settings) : Nat := (16 * (x.ambient + num x.restartMargin)).toNat

/-- The wheel ends at the load's end (R121). -/
def loadedWheels (x : Settings) (c : WearContents) : Six WheelEnd :=
  sixOf fun w =>
    ({ theta := startTheta x, heat := 0, account := c.padAccount.get w, residue := c.padResidue.get w, life := c.padLife.get w,
       grade := 0, fade := false : WheelEnd }).regrade.refade x.fadeThreshold

/-- The Wear Unit at the load's end (R121, R137). -/
def loadedWear (x : Settings) (c : WearContents) : WearUnit where
  wheels := loadedWheels x c
  anyFade := anyFadeOf (loadedWheels x c)
  cooling := Timer.seconds 1
  battery := batteryRecord c.batteryAccount c.batteryResidue c.batteryLife
  engine := engineRecord c.engineAccount c.engineLife

/-- Key-on as the blocks take it (R37, R61, R66, R166). -/
def State.keyTaken (s : State) : State :=
  let s := { s with store := { s.store with saveTimer := Timer.seconds 600 } }
  s.testGate.evaluateStart

/-- The images loaded into the working settings and the wear records, with the marks (R121, R137, R167). -/
def State.loadImages (s : State) : State :=
  let x := s.store.loadSettings
  let c := s.store.loadWear
  { s with
    settings := x.1
    wear := loadedWear x.1 c.1
    store := { s.store with settingsBad := x.2, wearBad := c.2 } }

/-- The outputs and timers that start at the load's end (R93, R99, R159). -/
def State.startUnits (s : State) : State :=
  { s with
    loaded := true
    aux := { s.aux with
      allowances := s.settings.allowances
      lines := .driven (lineLevels (s.settings.vectors.get s.aux.mode) s.settings.polarity) }
    blend := { s.blend with timer := .running s.settings.blendPeriod, lastRun := s.ms }
    svc := { s.svc with address := s.settings.address } }

/-- The Warning Unit's first evaluation (R142). -/
def State.firstEvaluation (s : State) : State := (s.takeLevels s.allLevels).refreshWarnings

/-- SETTINGS_LOAD_END (R93, R99, R121, R137, R142, R159, R166, R167). A load that has ended does not end again (log 22). -/
def execSettingsLoadEnd (s : State) : Host.Outcome State Fault Refusal :=
  if s.loaded then .next s
  else
    let s := s.loadImages.startUnits
    let s := (s.raise (.fadeCopyUpdate s.wear.anyFade)).firstEvaluation
    .next (if s.key then s.keyTaken else s)

/-! ### KEY (R61, R66, R80, R100, R166) -/

/-- KEY_ON: no edge if the key is on (log 23); before the load's end the level alone is kept (R167). -/
def execKeyOn (s : State) : Host.Outcome State Fault Refusal :=
  if s.key then .next s
  else
    let s := { s with key := true }
    .next (if s.loaded then s.keyTaken else s)

/-- Key-off as the blocks take it (R61, R80, R100, R166). -/
def State.keyLost (s : State) : State :=
  let s := s.contractKeyOff.sequencerKeyOff.raise .blendImmediateRun
  ({ s with store := { s.store with saveTimer := .stopped } }).requestWearSave

/-- KEY_OFF: no edge if the key is off (log 23); before the load's end the level alone is kept (R167). -/
def execKeyOff (s : State) : Host.Outcome State Fault Refusal :=
  if s.key then
    let s := { s with key := false }
    .next (if s.loaded then s.keyLost else s)
  else .next s

/-! ### DRIVELINE_RESET (R62, R82, R118, R157) -/

/-- Every reply slot emptied of its reply, and every queue (R157), with the last-queued copies made absent (R113). -/
def State.emptyPorts (s : State) : State :=
  let f := fun (pp : PartnerPort) => pp.emptyReply.emptyQueue
  let s := (((s.onPort .traction f).onPort .pack f).onPort .genset f).onPort .brake f
  { s with blend := (s.blend.forget .traction).forget .brake }

/-- DRIVELINE_RESET up to its completion (R62, R82). -/
def State.drivelineReset (s : State) : State :=
  let s := s.emptyPorts.drop .drivelineReset
  ({ s with view := s.view.clearExclusions }).sequencerReset

/-- DRIVELINE_RESET (R62, R82, R97, R118, R157, R163): the mode and the lines pass through SAFE before the gate is tested, so that
a gate that reopens takes them on from there (R97). -/
def execDrivelineReset (s : State) : Host.Outcome State Fault Refusal :=
  .next (s.drivelineReset.deriveMode.testGate.serviceDone .drivelineReset 0x69)

end Sys2Proof.Machine
end

