-- ==== Sys2Proof/Machine/Dispatch.lean ====
section
/-! DEFINITION. The meaning of each command (spec/opcode_table.json). -/

namespace Sys2Proof.Machine

def exec (i : Instr) (s : State) : Host.Outcome State Fault Refusal :=
  match i with
  | .powerOnReset cause => Sys2Proof.Machine.execPowerOnReset cause s
  | .settingsLoadEnd => Sys2Proof.Machine.execSettingsLoadEnd s
  | .keyOn => Sys2Proof.Machine.execKeyOn s
  | .keyOff => Sys2Proof.Machine.execKeyOff s
  | .spiExchange p e => Sys2Proof.Machine.execSpiExchange p e s
  | .statusQuery p => Sys2Proof.Machine.execStatusQuery p s
  | .tractionReport r => Sys2Proof.Machine.execTractionReport r s
  | .packReport r => Sys2Proof.Machine.execPackReport r s
  | .gensetReport r => Sys2Proof.Machine.execGensetReport r s
  | .brakeDemand r => Sys2Proof.Machine.execBrakeDemand r s
  | .offerList sup entries => Sys2Proof.Machine.execOfferList sup entries s
  | .accept p number => Sys2Proof.Machine.execAccept p number s
  | .decline p number reason => Sys2Proof.Machine.execDecline p number reason s
  | .yieldPower p kw => Sys2Proof.Machine.execYieldPower p kw s
  | .silenceTimerExpiry p => Sys2Proof.Machine.execSilenceTimerExpiry p s
  | .portStateView p now => Sys2Proof.Machine.execPortStateView p now s
  | .portStateContract p now => Sys2Proof.Machine.execPortStateContract p now s
  | .latePortUpNotice p => Sys2Proof.Machine.execLatePortUpNotice p s
  | .portStateSequencer now => Sys2Proof.Machine.execPortStateSequencer now s
  | .portStateBlend p now => Sys2Proof.Machine.execPortStateBlend p now s
  | .arrivalNotice kind changes => Sys2Proof.Machine.execArrivalNotice kind changes s
  | .acceptanceWindowExpiry => Sys2Proof.Machine.execAcceptanceWindowExpiry s
  | .roundRestExpiry => Sys2Proof.Machine.execRoundRestExpiry s
  | .peakExpiry => Sys2Proof.Machine.execPeakExpiry s
  | .gensetEntersOnline => Sys2Proof.Machine.execGensetEntersOnline s
  | .gensetLeavesOnline => Sys2Proof.Machine.execGensetLeavesOnline s
  | .derateChange => Sys2Proof.Machine.execDerateChange s
  | .penaltyChange => Sys2Proof.Machine.execPenaltyChange s
  | .quietZoneChange => Sys2Proof.Machine.execQuietZoneChange s
  | .auxChange => Sys2Proof.Machine.execAuxChange s
  | .gensetWantedChange wanted cause => Sys2Proof.Machine.execGensetWantedChange wanted cause s
  | .gensetReportSignal cond coolant fault => Sys2Proof.Machine.execGensetReportSignal cond coolant fault s
  | .activitySignal src => Sys2Proof.Machine.execActivitySignal src s
  | .criticalMarkSignal => Sys2Proof.Machine.execCriticalMarkSignal s
  | .commitmentHanded kw index => Sys2Proof.Machine.execCommitmentHanded kw index s
  | .quietZoneSequencer on => Sys2Proof.Machine.execQuietZoneSequencer on s
  | .crankTimerExpiry => Sys2Proof.Machine.execCrankTimerExpiry s
  | .restTimerExpiry => Sys2Proof.Machine.execRestTimerExpiry s
  | .warmTimerExpiry => Sys2Proof.Machine.execWarmTimerExpiry s
  | .idleOffExpiry => Sys2Proof.Machine.execIdleOffExpiry s
  | .cooldownTimerExpiry => Sys2Proof.Machine.execCooldownTimerExpiry s
  | .modeDerivation => Sys2Proof.Machine.execModeDerivation s
  | .blendTimerExpiry => Sys2Proof.Machine.execBlendTimerExpiry s
  | .blendImmediateRun => Sys2Proof.Machine.execBlendImmediateRun s
  | .fadeCopyUpdate level => Sys2Proof.Machine.execFadeCopyUpdate level s
  | .frictionHandOff powers ms => Sys2Proof.Machine.execFrictionHandOff powers ms s
  | .coolingTimerExpiry => Sys2Proof.Machine.execCoolingTimerExpiry s
  | .packHandOff pPack temp dt => Sys2Proof.Machine.execPackHandOff pPack temp dt s
  | .startPointsHandOff points => Sys2Proof.Machine.execStartPointsHandOff points s
  | .conditionLevelChange levels => Sys2Proof.Machine.execConditionLevelChange levels s
  | .serviceWrite addr bytes => Sys2Proof.Machine.execServiceWrite addr bytes s
  | .serviceRead addr count => Sys2Proof.Machine.execServiceRead addr count s
  | .serviceReadHoldTimeout => Sys2Proof.Machine.execServiceReadHoldTimeout s
  | .serviceStatusQuery => Sys2Proof.Machine.execServiceStatusQuery s
  | .readItem item => Sys2Proof.Machine.execReadItem item s
  | .activityStatusRead => Sys2Proof.Machine.execActivityStatusRead s
  | .writeItem item copy value => Sys2Proof.Machine.execWriteItem item copy value s
  | .writeModeVector m value => Sys2Proof.Machine.execWriteModeVector m value s
  | .writeRatedDraw line value => Sys2Proof.Machine.execWriteRatedDraw line value s
  | .writePolarity line value => Sys2Proof.Machine.execWritePolarity line value s
  | .writePadAccount w copy value => Sys2Proof.Machine.execWritePadAccount w copy value s
  | .writePadLife w copy value => Sys2Proof.Machine.execWritePadLife w copy value s
  | .writeHeatCapacity w copy value => Sys2Proof.Machine.execWriteHeatCapacity w copy value s
  | .writeBatteryAccount value => Sys2Proof.Machine.execWriteBatteryAccount value s
  | .writeBatteryLife value => Sys2Proof.Machine.execWriteBatteryLife value s
  | .writeEngineAccount value => Sys2Proof.Machine.execWriteEngineAccount value s
  | .writeEngineLife value => Sys2Proof.Machine.execWriteEngineLife value s
  | .writeFadeThreshold value => Sys2Proof.Machine.execWriteFadeThreshold value s
  | .writeWarnGrade kind value => Sys2Proof.Machine.execWriteWarnGrade kind value s
  | .writeChargeMark mark value => Sys2Proof.Machine.execWriteChargeMark mark value s
  | .writeCriticalMark value => Sys2Proof.Machine.execWriteCriticalMark value s
  | .writeDeliveryMask target value => Sys2Proof.Machine.execWriteDeliveryMask target value s
  | .clearWarnings codes => Sys2Proof.Machine.execClearWarnings codes s
  | .wearResetPad account copy => Sys2Proof.Machine.execWearResetPad account copy s
  | .wearResetBattery => Sys2Proof.Machine.execWearResetBattery s
  | .wearResetEngine => Sys2Proof.Machine.execWearResetEngine s
  | .clearLockout => Sys2Proof.Machine.execClearLockout s
  | .activity => Sys2Proof.Machine.execActivity s
  | .setQuietZone on => Sys2Proof.Machine.execSetQuietZone on s
  | .portReset port => Sys2Proof.Machine.execPortReset port s
  | .tallyClear port => Sys2Proof.Machine.execTallyClear port s
  | .drivelineReset => Sys2Proof.Machine.execDrivelineReset s
  | .commit => Sys2Proof.Machine.execCommit s
  | .wearSaveTimerExpiry => Sys2Proof.Machine.execWearSaveTimerExpiry s
  | .storeWriteCompletion ok => Sys2Proof.Machine.execStoreWriteCompletion ok s

end Sys2Proof.Machine
end

