-- ==== Sys2Proof/Machine/Step.lean ====
section
/-! DEFINITION. One step: the command at the front of the queue, or on an empty queue what the part does of itself (log 1, 2,
27). -/

namespace Sys2Proof.Machine

/-- The part's commands in the order an idle step takes them: requests held at the partner ports and the Service port (R150,
R159; log 2). -/
def State.heldRequests (s : State) : List Instr :=
  (Port.all.filterMap fun p => match (s.port p).slot with | .reserved i => some i | .empty => none | .reply _ => none) ++
    s.svc.inProcess.toList

/-- The expiries that are due, in a fixed order (log 2). -/
def State.dueExpiries (s : State) : List Instr :=
  let due := fun (t : Timer) (i : Instr) => if t.due then [i] else []
  (Port.all.flatMap fun p => if s.isUp p then due (s.port p).silence (.silenceTimerExpiry p) else []) ++
    due s.cu.window .acceptanceWindowExpiry ++ due s.cu.rest .roundRestExpiry ++ due s.cu.peak .peakExpiry ++
    due s.gs.crank .crankTimerExpiry ++ due s.gs.rest .restTimerExpiry ++ due s.gs.warm .warmTimerExpiry ++
    due s.gs.idleOff .idleOffExpiry ++ due s.gs.cooldown .cooldownTimerExpiry ++ due s.blend.timer .blendTimerExpiry ++
    due s.wear.cooling .coolingTimerExpiry ++ due s.store.saveTimer .wearSaveTimerExpiry ++
    (if s.svc.hold.isSome then due s.svc.holdTimer .serviceReadHoldTimeout else [])

/-- What waits inside the part: raised signals, the oldest first, then requests held, then expiries due (log 2). -/
def State.waiting (s : State) : List Instr := s.signals ++ s.heldRequests ++ s.dueExpiries

/-- One millisecond at a partner port. -/
def PartnerPort.tick (pp : PartnerPort) : PartnerPort := { pp with silence := pp.silence.tick }

/-- One millisecond of the part's clock: the count, and every timer (sections 0-6, 1-5.1; log 27). -/
def State.tick (s : State) : State :=
  { s with
    ms := (s.ms + 1) % wrapMs
    ports := ⟨s.ports.traction.tick, s.ports.pack.tick, s.ports.genset.tick, s.ports.brake.tick⟩
    cu := { s.cu with window := s.cu.window.tick, rest := s.cu.rest.tick, peak := s.cu.peak.tick }
    gs := { s.gs with
      crank := s.gs.crank.tick
      rest := s.gs.rest.tick
      warm := s.gs.warm.tick
      idleOff := s.gs.idleOff.tick
      cooldown := s.gs.cooldown.tick }
    blend := { s.blend with timer := s.blend.timer.tick }
    wear := { s.wear with cooling := s.wear.cooling.tick }
    store := { s.store with saveTimer := s.store.saveTimer.tick }
    svc := { s.svc with holdTimer := s.svc.holdTimer.tick } }

/-- A step on an empty queue (log 2): the first thing waiting, or a millisecond. -/
def State.idle (s : State) : Host.Outcome State Fault Refusal :=
  match s.waiting with
  | [] => .next s.tick
  | i :: _ => exec i s

/-- One step: the command at the front of the queue, with the queue's rest. -/
def step (s : State) : Host.Outcome State Fault Refusal :=
  match s.pending with
  | [] => s.idle
  | i :: rest => exec i { s with pending := rest }

/-- The state with the command a word spells put at the front of the queue; unchanged where the word spells none (log 25). -/
def State.withFetchWord (s : State) (nbits w : Nat) : State :=
  match decodeTableWord nbits w with
  | none => s
  | some i => { s with pending := i :: s.pending }

end Sys2Proof.Machine
end

