-- ==== Sys2Proof/Safety.lean ====
section
/-! DEFINITION. What holds of the part at all times, unit by unit, as the manual's prose says it; the statements for the provers say
that every step keeps it. -/

namespace Sys2Proof.Machine

/-! ### Contract Unit -/

/-- Nothing of the protocol stands while the gate is not OPEN (R36, R39). -/
def ContractUnit.restsUnlessOpen (c : ContractUnit) : Prop :=
  c.gate ≠ .opened →
    c.active = none ∧ c.proposal = none ∧ c.round = .idle ∧ c.settled = false ∧ c.window = .stopped ∧ c.rest = .stopped ∧
      c.peak = .stopped ∧ c.gensetWanted = false

/-- The laws of R40 that terms keep by themselves: the balance, and that a genset offer is named exactly with a commitment above
zero; with them, that the charge allowance comes from the commitment (R27). -/
structure Terms.lawful (t : Terms) : Prop where
  balance : t.grant + t.aux + t.charge = t.share + t.commitment
  names : t.gensetIndex.isSome = true ↔ t.commitment ≠ 0
  charged : t.charge ≤ t.commitment

/-- A number a proposal can have (R41). -/
def numberLawful (n : Nat) : Prop := 1 ≤ n ∧ n ≤ 255

/-- The active contract and the pending proposal are lawful, and differ in number (R40, R41). -/
structure ContractUnit.lawful (c : ContractUnit) : Prop where
  active : ∀ a, c.active = some a → a.terms.lawful ∧ numberLawful a.number
  proposal : ∀ p, c.proposal = some p → p.terms.lawful ∧ numberLawful p.number
  differ : ∀ a p, c.active = some a → c.proposal = some p → a.number ≠ p.number
  counter : c.counter ≤ 255

/-! ### Genset Sequencer -/

/-- Each timer runs in its own state only, the idle-off timer only as R73 lets it, and the attempts stay at 3 or below (R64,
R68 to R76). -/
structure Sequencer.lawful (g : Sequencer) : Prop where
  attempts : g.attempts ≤ 3
  crank : g.crank.isRunning = true → g.state = .cranking
  rest : g.rest.isRunning = true → g.state = .resting
  warm : g.warm.isRunning = true → g.state = .warming
  cooldown : g.cooldown.isRunning = true → g.state = .cooldown
  idleOff : g.idleOff.isRunning = true → g.state = .online ∧ g.heldIndex = none ∧ g.wantedCopy = false

/-! ### Auxiliary Output Unit -/

/-- The allowances are those of the settings, and driven lines stand at the levels of the current vector and the polarities
(R90, R92). -/
structure State.auxLawful (s : State) : Prop where
  allowances : s.aux.allowances = s.settings.allowances
  lines : s.aux.lines ≠ .highZ → s.aux.lines = .driven (lineLevels (s.settings.vectors.get s.aux.mode) s.settings.polarity)

/-! ### Blend Unit -/

/-- The laws of a blend result: R within P_dem and R_s (R107), the friction what is left of the demand (R110), divided in full
among the axles and the wheel ends (R111). -/
structure BlendResult.lawful (r : BlendResult) : Prop where
  demand : r.applied ≤ r.pDem
  storage : r.applied ≤ r.rStorage
  friction : r.friction = r.pDem - r.applied
  axles : r.axle1 + r.axle2 + r.axle3 = r.friction
  wheels : r.wheels.l1 + r.wheels.r1 + r.wheels.l2 + r.wheels.r2 + r.wheels.l3 + r.wheels.r3 = r.friction

/-! ### Wear Unit -/

/-- Every grade is the figure of its account and life, the derate and penalty those of their grades, and the any-fade level that
of the six flags (R124, R125, R132, R133). -/
structure WearUnit.lawful (w : WearUnit) : Prop where
  pads : ∀ x, (w.wheels.get x).grade = padGrade (w.wheels.get x).account (w.wheels.get x).life
  batteryGrade : w.battery.grade = gradeOf w.battery.account w.battery.life
  derate : w.battery.derate = derateOf w.battery.grade
  engineGrade : w.engine.grade = gradeOf w.engine.account w.engine.life
  penalty : w.engine.penalty = penaltyOf w.engine.grade
  anyFade : w.anyFade = anyFadeOf w.wheels

/-! ### Warning Unit -/

/-- The summaries and the service attention line are those of the latches and masks (R144, R145). -/
structure State.warningsLawful (s : State) : Prop where
  summaries : s.warn.summaries = summariesOf s.warn.latched
  line : s.warn.serviceLow = serviceLineLow s.settings s.warn.latched

/-! ### Settings -/

/-- These settings are those, each clamped to its range (the rules of every chapter; R161, R162, R167; the address log 19). -/
structure Settings.clampedFrom (x y : Settings) : Prop where
  activityRise : x.activityRise = max 5 (min 100 y.activityRise)
  hysteresis : x.hysteresis = min 50 y.hysteresis
  chargeStart : x.chargeStart = min 1000 y.chargeStart
  chargeStop : x.chargeStop = min 1000 y.chargeStop
  criticalMark : x.criticalMark = min 1000 y.criticalMark
  chargeTarget : x.chargeTarget = min 1023 y.chargeTarget
  regenCap : x.regenCap = min 1023 y.regenCap
  window : x.window = max 50 (min 1000 y.window)
  crank : x.crank = max 2 (min 15 y.crank)
  warm : x.warm = max 10 (min 600 y.warm)
  cooldown : x.cooldown = max 5 (min 300 y.cooldown)
  quietCooldown : x.quietCooldown = max 1 (min 30 y.quietCooldown)
  warmTemp : x.warmTemp = max 0 (min 120 y.warmTemp)
  idleOffCode : x.idleOffCode = min 15 y.idleOffCode
  activityMasks : x.maskTractionRise = y.maskTractionRise ∧ x.maskBrakeRelease = y.maskBrakeRelease ∧
    x.maskSocLow = y.maskSocLow ∧ x.maskService = y.maskService
  vectors : x.vectors = y.vectors
  draws : x.draws.length = 8 ∧ ∀ i, i < 8 → x.draws.getD i 0 = min 63 (y.draws.getD i 0)
  polarity : x.polarity = y.polarity
  blendPeriod : x.blendPeriod = if y.blendPeriod ≤ 15 then 10 else if y.blendPeriod ≤ 30 then 20 else 40
  vLo : x.vLo = min 300 y.vLo
  vHi : x.vHi = min 300 y.vHi
  eta : x.eta = max 70 (min 100 y.eta)
  driveShare : x.driveShare = min 100 y.driveShare
  hotShare : x.hotShare = min 100 y.hotShare
  upSlope : x.upSlope = max 1 (min 255 y.upSlope)
  downSlope : x.downSlope = max 1 (min 255 y.downSlope)
  catchUp : x.catchUp = min 1023 y.catchUp
  ambient : x.ambient = max (-40) (min 200 y.ambient)
  restartMargin : x.restartMargin = min 200 y.restartMargin
  warmThreshold : x.warmThreshold = min 1023 y.warmThreshold
  hotThreshold : x.hotThreshold = min 1023 y.hotThreshold
  fadeThreshold : x.fadeThreshold = min 1023 y.fadeThreshold
  highRate : x.highRate = min 1023 y.highRate
  packHot : x.packHot = max (-40) (min 200 y.packHot)
  edges : x.edges.length = 23 ∧ ∀ i, i < 23 → x.edges.getD i .rise = y.edges.getD i .rise
  masks : x.masks.length = 23 ∧ ∀ i, i < 23 → x.masks.getD i 0#5 = y.masks.getD i 0#5
  padWarn : x.padWarn = max 1 (min 7 y.padWarn)
  batteryWarn : x.batteryWarn = max 1 (min 7 y.batteryWarn)
  engineWarn : x.engineWarn = max 1 (min 7 y.engineWarn)
  globalMask : x.globalMask = y.globalMask
  silenceWindow : x.silenceWindow = max 20 (min 500 y.silenceWindow) / 10 * 10
  address : x.address = min 127 y.address
  heatCapacity : ∀ w, x.heatCapacity.get w = max 1000 (min 65535 (y.heatCapacity.get w))

/-- Every setting holds a value of its range (R161, R162, R167). -/
def State.settingsLawful (s : State) : Prop := s.settings.clampedFrom s.settings

/-- Every setting is at the default its chapter gives (R14, R12, R24, R66, R25, R30, R43, R64, R73, R75, R88, R89, R91, R99, R103 to
R105, R108, R120, R130, R139, R144, R156, R159). -/
structure Settings.atDefaults (x : Settings) : Prop where
  reports : x.activityRise = 20 ∧ x.hysteresis = 10
  selection : x.chargeStart = 350 ∧ x.chargeStop = 600 ∧ x.chargeTarget = 80 ∧ x.regenCap = 400 ∧ x.window = 200
  genset : x.criticalMark = 150 ∧ x.crank = 6 ∧ x.warm = 90 ∧ x.cooldown = 30 ∧ x.quietCooldown = 5 ∧ x.warmTemp = 60 ∧
    x.idleOffCode = 10 ∧ x.maskTractionRise = false ∧ x.maskBrakeRelease = false ∧ x.maskSocLow = false ∧ x.maskService = false
  aux : x.vectors = ⟨0b00011011#8, 0b01111111#8, 0b00111111#8, 0b00111101#8⟩ ∧ x.draws = [4, 6, 2, 2, 2, 2, 4, 8] ∧
    x.polarity = 0b11111111#8
  blend : x.blendPeriod = 20 ∧ x.vLo = 20 ∧ x.vHi = 50 ∧ x.eta = 88 ∧ x.driveShare = 45 ∧ x.hotShare = 70 ∧ x.upSlope = 20 ∧
    x.downSlope = 40 ∧ x.catchUp = 100
  wear : x.ambient = 20 ∧ x.restartMargin = 60 ∧ x.warmThreshold = 300 ∧ x.hotThreshold = 450 ∧ x.fadeThreshold = 400 ∧
    x.heatCapacity = ⟨12000, 12000, 12000, 12000, 12000, 12000⟩ ∧ x.highRate = 150 ∧ x.packHot = 45
  warnings : x.padWarn = 5 ∧ x.batteryWarn = 4 ∧ x.engineWarn = 6 ∧ x.globalMask = false
  edges : x.edges.length = 23 ∧ ∀ i, i < 23 → x.edges.getD i .rise = if 17 ≤ i ∧ i ≤ 20 then .both else .rise
  masks : x.masks.length = 23 ∧ ∀ i, i < 23 → x.masks.getD i 0#5 =
    if i < 6 then 0b10000#5 else if i < 12 then 0b11000#5 else if i = 12 then 0b10010#5 else if i = 13 then 0b10100#5
    else if i = 14 then 0b10101#5 else if i = 15 then 0b10001#5 else if i < 21 then 0b11111#5 else 0b10000#5
  ports : x.silenceWindow = 100 ∧ x.address = 0x52

/-! ### Partner ports -/

/-- A queue never holds two notices of one class (R153). -/
def PartnerPort.lawful (pp : PartnerPort) : Prop := (pp.queue.map Notice.cls).Nodup

/-- Every port's queue is lawful. -/
def State.queuesLawful (s : State) : Prop := ∀ p, (s.port p).lawful

/-- All of it. -/
structure State.lawful (s : State) : Prop where
  rests : s.cu.restsUnlessOpen
  contract : s.cu.lawful
  sequencer : s.gs.lawful
  aux : s.auxLawful
  blend : s.blend.result.lawful
  wear : s.wear.lawful
  warnings : s.warningsLawful
  queues : s.queuesLawful
  settings : s.settingsLawful

/-! ### What a command may change -/

/-- The parts of State. -/
inductive Piece where
  | key | loaded | quiet | ms | ports | view | cu | gs | aux | blend | wear | warn | svc | settings | store | signals
  | freeCount | pending
  deriving DecidableEq, Repr

/-- Two states agree on a part. -/
def State.agrees (s t : State) : Piece → Prop
  | .key => t.key = s.key
  | .loaded => t.loaded = s.loaded
  | .quiet => t.quiet = s.quiet
  | .ms => t.ms = s.ms
  | .ports => t.ports = s.ports
  | .view => t.view = s.view
  | .cu => t.cu = s.cu
  | .gs => t.gs = s.gs
  | .aux => t.aux = s.aux
  | .blend => t.blend = s.blend
  | .wear => t.wear = s.wear
  | .warn => t.warn = s.warn
  | .svc => t.svc = s.svc
  | .settings => t.settings = s.settings
  | .store => t.store = s.store
  | .signals => t.signals = s.signals
  | .freeCount => t.freeCount = s.freeCount
  | .pending => t.pending = s.pending

/-- `t` differs from `s` in these parts at most. -/
def Within (l : List Piece) (s t : State) : Prop := ∀ p, p ∉ l → s.agrees t p

/-- What the Contract Unit's commands reach: itself, the View's marks and reference, the notice queues, signals, and the counter of
free values. -/
def contractPieces : List Piece := [.cu, .view, .ports, .signals, .freeCount]

/-- What the Genset Sequencer's commands reach: itself, the Genset port's queue, and signals. -/
def gensetPieces : List Piece := [.gs, .ports, .signals]

/-- What a key edge reaches, the pin apart. -/
def keyPieces : List Piece := [.cu, .view, .ports, .signals, .freeCount, .gs, .store]

/-- Every part but the queue of commands. -/
def allPieces : List Piece :=
  [.key, .loaded, .quiet, .ms, .ports, .view, .cu, .gs, .aux, .blend, .wear, .warn, .svc, .settings, .store, .signals, .freeCount]

/-- The parts a command may change; it leaves every other part of State as it was. -/
def footprint : Instr → List Piece
  | .powerOnReset _ => allPieces
  | .settingsLoadEnd => [.loaded, .settings, .aux, .blend, .wear, .warn, .svc] ++ keyPieces
  | .keyOn => .key :: keyPieces
  | .keyOff => .key :: keyPieces
  | .spiExchange _ _ => [.ports, .signals]
  | .statusQuery _ => [.ports]
  | .tractionReport _ => [.view, .ports, .signals]
  | .packReport _ => [.view, .ports, .signals]
  | .gensetReport _ => [.view, .ports, .signals]
  | .brakeDemand _ => [.view, .ports, .signals]
  | .offerList _ _ => [.view, .ports, .signals]
  | .accept _ _ => contractPieces
  | .decline _ _ _ => contractPieces
  | .yieldPower _ _ => contractPieces
  | .silenceTimerExpiry _ => [.ports, .signals]
  | .portStateView _ _ => [.view, .signals]
  | .portStateContract _ _ => contractPieces
  | .latePortUpNotice _ => [.ports, .signals]
  | .portStateSequencer _ => gensetPieces
  | .portStateBlend _ _ => [.blend, .ports, .signals]
  | .arrivalNotice _ _ => contractPieces
  | .acceptanceWindowExpiry => contractPieces
  | .roundRestExpiry => contractPieces
  | .peakExpiry => contractPieces
  | .gensetEntersOnline => contractPieces
  | .gensetLeavesOnline => contractPieces
  | .derateChange => contractPieces
  | .penaltyChange => contractPieces
  | .quietZoneChange => contractPieces
  | .auxChange => contractPieces
  | .gensetWantedChange _ _ => gensetPieces
  | .gensetReportSignal _ _ _ => gensetPieces
  | .activitySignal _ => [.gs, .signals]
  | .criticalMarkSignal => gensetPieces
  | .commitmentHanded _ _ => gensetPieces
  | .quietZoneSequencer _ => gensetPieces
  | .crankTimerExpiry => gensetPieces
  | .restTimerExpiry => gensetPieces
  | .warmTimerExpiry => gensetPieces
  | .idleOffExpiry => gensetPieces
  | .cooldownTimerExpiry => gensetPieces
  | .modeDerivation => [.aux, .signals]
  | .blendTimerExpiry => [.blend, .ports, .signals]
  | .blendImmediateRun => [.blend, .ports, .signals]
  | .fadeCopyUpdate _ => [.blend, .signals]
  | .frictionHandOff _ _ => [.wear, .signals]
  | .coolingTimerExpiry => [.wear, .signals]
  | .packHandOff _ _ _ => [.wear, .signals]
  | .startPointsHandOff _ => [.wear, .signals]
  | .conditionLevelChange _ => [.warn, .ports, .signals]
  | .serviceWrite _ _ => [.svc]
  | .serviceRead _ _ => [.svc]
  | .serviceReadHoldTimeout => [.svc]
  | .serviceStatusQuery => [.svc]
  | .readItem _ => [.gs, .svc]
  | .activityStatusRead => [.gs, .svc]
  | .writeItem _ _ _ => [.settings, .wear, .warn, .aux, .gs, .store, .svc] ++ contractPieces
  | .writeModeVector _ _ => [.settings, .aux, .signals, .svc]
  | .writeRatedDraw _ _ => [.settings, .aux, .signals, .svc]
  | .writePolarity _ _ => [.settings, .aux, .svc]
  | .writePadAccount _ _ _ => [.wear, .signals, .store, .svc]
  | .writePadLife _ _ _ => [.wear, .signals, .store, .svc]
  | .writeHeatCapacity _ _ _ => [.settings, .wear, .signals, .svc]
  | .writeBatteryAccount _ => [.wear, .signals, .store, .svc]
  | .writeBatteryLife _ => [.wear, .signals, .store, .svc]
  | .writeEngineAccount _ => [.wear, .signals, .store, .svc]
  | .writeEngineLife _ => [.wear, .signals, .store, .svc]
  | .writeFadeThreshold _ => [.settings, .wear, .signals, .svc]
  | .writeWarnGrade _ _ => [.settings, .warn, .ports, .svc]
  | .writeChargeMark _ _ => [.settings, .svc] ++ contractPieces
  | .writeCriticalMark _ => [.settings, .svc] ++ gensetPieces
  | .writeDeliveryMask _ _ => [.settings, .warn, .svc]
  | .clearWarnings _ => [.warn, .svc]
  | .wearResetPad _ _ => [.wear, .signals, .store, .svc]
  | .wearResetBattery => [.wear, .signals, .store, .svc]
  | .wearResetEngine => [.wear, .signals, .store, .svc]
  | .clearLockout => .svc :: gensetPieces
  | .activity => .svc :: gensetPieces
  | .setQuietZone _ => [.quiet, .signals, .svc]
  | .portReset _ => [.ports, .blend, .signals, .svc]
  | .tallyClear _ => [.ports, .svc]
  | .drivelineReset => [.gs, .aux, .blend, .svc] ++ contractPieces
  | .commit => [.store, .svc]
  | .wearSaveTimerExpiry => [.store]
  | .storeWriteCompletion _ => [.store, .signals, .freeCount]

/-! ### Timers -/

/-- One millisecond of a timer (section 0-6; log 27): the time left falls by one; a timer stopped, endless or with nothing left stays
as it is. -/
def Timer.moved (a b : Timer) : Prop :=
  (∀ n, a = .running (n + 1) → b = .running n) ∧ ((∀ n, a ≠ .running (n + 1)) → b = a)

/-! ### Replies -/

/-- The port answers the request with this reply, from the slot reserved for it or an empty one (R150; log 5); nothing else of the
port changes, and no other port. -/
def State.answered (s t : State) (p : Port) (request : Instr) (r : Reply) : Prop :=
  (∀ q, q ≠ p → t.port q = s.port q) ∧
    t.port p = { s.port p with slot := (t.port p).slot, orphan := (t.port p).orphan } ∧
    ((s.port p).slot = .reserved request ∨ ((s.port p).slot = .empty ∧ (s.port p).orphan ≠ some request) →
      (t.port p).slot = .reply r)

/-- An unsigned 16-bit field, least significant byte first (section 10-3). -/
def twoBytes (n : Nat) : List Byte := [BitVec.ofNat 8 (n % 256), BitVec.ofNat 8 (n / 256 % 256)]

/-- The age of a record that arrived at this count, across the wrap, saturated (section 1-5.1, R18). -/
def State.ageOf (s : State) (arrival : Nat) : Nat := min 65535 ((s.ms + (4294967296 - arrival % 4294967296)) % 4294967296)

/-- Presence, freshness and age in the status content (section 10-3). -/
def State.placeBytes {α : Type} (s : State) : Option (Place α) → List Byte
  | none => [0#8, 0#8, 0#8]
  | some x => (if x.held then 3#8 else 1#8) :: twoBytes (s.ageOf x.arrival)

/-- The count of a list and the number of its entries with either mark (R19). -/
def listBytes : Option (Place (List Offer)) → List Byte
  | none => [0#8, 0#8]
  | some l => [BitVec.ofNat 8 l.content.length,
      BitVec.ofNat 8 (l.content.filter fun o => o.excluded = true ∨ o.expired = true).length]

/-- The contract notice payload of section 10-3, byte by byte. -/
def termsBytes (number : Nat) (t : Terms) : List Byte :=
  [BitVec.ofNat 8 number] ++ twoBytes t.basisReq ++ twoBytes t.basisMin ++ twoBytes t.grant ++
    [BitVec.ofNat 8 (t.storageIndex % 16 + 16 * (match t.gensetIndex with | some g => g | none => 0))] ++
    twoBytes t.share ++ twoBytes t.commitment ++ twoBytes t.aux ++ twoBytes t.charge ++ twoBytes t.ceiling ++
    [BitVec.ofNat 8 ((match t.mode with | .electric => 0 | .hybrid => 1 | .charge => 2 | .safe => 3) +
      (match t.mismatch with | none => 0 | some .shortSupply => 4 + 32 * 1 | some .belowMinimum => 4 + 32 * 2) +
      (if t.reduced then 8 else 0) + (match t.peak with | some _ => 16 | none => 0))] ++
    twoBytes (match t.peak with | some d => d | none => 0)

/-- The kind and payload of every notice (section 10-3). -/
def noticeBytes : Notice → Nat × List Byte
  | .contractOffer n t => (0x40, termsBytes n t)
  | .contractActive n t => (0x41, termsBytes n t)
  | .contractRevised n t => (0x42, termsBytes n t)
  | .contractWithdrawn n => (0x43, BitVec.ofNat 8 n :: List.replicate 20 0#8)
  | .contractDropped n r => (0x44, BitVec.ofNat 8 n :: List.replicate 17 0#8 ++
      [match r with
        | .tractionLost => 0x00#8 | .packLost => 0x20#8 | .supplyBelowAux => 0x40#8 | .noStorageOffer => 0x60#8
        | .belowMinimum => 0x80#8 | .noGiveBack => 0xA0#8 | .keyOff => 0xC0#8 | .drivelineReset => 0xE0#8, 0#8, 0#8])
  | .regenCommand r d => (0x50, twoBytes r ++ twoBytes d)
  | .frictionCommand c =>
    (0x51, twoBytes c.dFriction ++ twoBytes c.friction ++ twoBytes c.axle1 ++ twoBytes c.axle2 ++ twoBytes c.axle3)
  | .gensetCommand c i kw =>
    (0x52, [match c with | .start => 0#8 | .stop => 1#8 | .cooldown => 2#8 | .operate => 3#8,
      BitVec.ofNat 8 (match i with | some g => g | none => 0)] ++ twoBytes kw)
  | .warning code set =>
    (0x58, [BitVec.ofNat 8 code, set.extractLsb' 0 8, set.extractLsb' 8 8, set.extractLsb' 16 8])

/-- The kind and payload of a reply clocked out with this overrun flag (R151, R152, R160). -/
def replyBytes (overrun : Bool) : Reply → Nat × List Byte
  | .answer kind outcome clamped content =>
    (kind + 0x80,
      [match outcome with | .done => 0#8 | .refused _ => 1#8 | .stale => 2#8 | .status => 3#8,
        match outcome with
          | .refused .badCount => 1#8 | .refused .notOpen => 2#8 | .refused .notSource => 3#8
          | .refused .unknownItem => 4#8 | .refused .readOnly => 5#8 | .refused .busy => 6#8
          | .done => 0#8 | .stale => 0#8 | .status => 0#8,
        (if clamped then 1#8 else 0#8) + (if overrun then 2#8 else 0#8)] ++ content)
  | .frameError cls =>
    (0x7E, [match cls with | .frameCrc => 0#8 | .frameLength => 1#8 | .wrongKind => 2#8, if overrun then 2#8 else 0#8])

/-- The reply to a partner's request that the port holds is this one (R150). -/
def State.repliesOn (s t : State) (p : Port) (request : Instr) (r : Reply) : Prop :=
  (s.port p).slot = .reserved request → (t.port p).slot = .reply r

/-- The reply to a service request in process is this one (R159), when no read waits for it with the clock held. -/
def State.repliesService (s t : State) (request : Instr) (r : Reply) : Prop :=
  s.svc.inProcess = some request → s.svc.hold = none → t.svc.inProcess = none ∧ t.svc.reply = some r

/-! ### Reports replaced (R9) -/

/-- The report held before a new one, as the comparisons of section 1-6 see it: none when the place is absent or HELD (R9). -/
def heldFresh {α : Type} (place : Option (Place α)) (old : α) : Prop := ∃ n, place = some ⟨old, n, false⟩

/-! ### Rankings (R28) -/

/-- One candidate comes before another: the six keys of R28 in turn, the first while the charge need is set. -/
def Candidate.precedes (need : Bool) (c d : Candidate) : Prop :=
  (need = true ∧ d.charge < c.charge) ∨
    ((need = true → c.charge = d.charge) ∧
      (c.cost < d.cost ∨
        (c.cost = d.cost ∧
          ((c.gensetIndex = none ∧ d.gensetIndex ≠ none) ∨
            ((c.gensetIndex = none ↔ d.gensetIndex = none) ∧
              (c.sum < d.sum ∨
                (c.sum = d.sum ∧
                  (c.storageIndex < d.storageIndex ∨
                    (c.storageIndex = d.storageIndex ∧ c.gensetIndex.getD 0 < d.gensetIndex.getD 0)))))))))

/-! ### Runs and drops (chapters 2 and 3) -/

/-- The notice waits on every port of these that takes contract notices, one not DOWN (R153). -/
def State.queuedOn (s t : State) (who : Port → Prop) (n : Notice) : Prop :=
  ∀ p, who p → (s.port p).state ≠ .down → n ∈ (t.port p).queue

/-- The ports of a set of parties. -/
def PartySet.tells (x : PartySet) : Port → Prop
  | .traction => x.traction = true
  | .pack => x.pack = true
  | .genset => x.genset = true
  | .brake => False

/-- The number the next proposal takes (R41). -/
def numberAfter (counter : Nat) (active : Option Contract) : Nat :=
  let next := fun n => if n < 255 then n + 1 else 1
  if active.map (·.number) = some (next counter) then next (next counter) else next counter

/-- Terms are the pending proposal, as the `count`th of a round (R41 to R43). -/
def State.proposed (s t : State) (count : Nat) (u : Terms) : Prop :=
  let n := numberAfter s.cu.counter s.cu.active
  let required : PartySet := ⟨true, true, u.gensetIndex.isSome⟩
  t.cu.proposal = some ⟨n, u, required, ⟨false, false, false⟩, s.view.storageSerial, s.view.gensetSerial⟩ ∧
    t.cu.counter = n ∧ t.cu.round = .inRound count ∧ t.cu.window = .running s.settings.window ∧
    t.cu.active = s.cu.active ∧ t.cu.settled = s.cu.settled ∧ s.queuedOn t required.tells (.contractOffer n u)

/-- The contract's storage offer may still be used, its exclusion mark left aside (R22, R50). -/
def State.restsOnUsable (s : State) (a : Contract) : Prop :=
  ∃ l o, s.view.storage = some l ∧ 1 ≤ a.terms.storageIndex ∧ l.content[a.terms.storageIndex - 1]? = some o ∧
    o.expired = false ∧ (s.quiet = true → o.quiet = true)

/-- What a drop leaves (R13, R36, R38, R60, R63): nothing of the protocol, the gate as the reason gives it, the record, the notice on
every port not DOWN, and what the other units are told. -/
structure State.droppedFor (s t : State) (reason : DropReason) : Prop where
  gate : t.cu.gate = if reason = .keyOff ∨ reason = .drivelineReset then .blocked else .safe
  flags : t.cu.gate = .safe → t.cu.sinceTraction = false ∧ t.cu.sincePack = false
  active : t.cu.active = none
  proposal : t.cu.proposal = none
  round : t.cu.round = .idle
  settled : t.cu.settled = false
  window : t.cu.window = .stopped
  rest : t.cu.rest = .stopped
  peak : t.cu.peak = .stopped
  wanted : t.cu.gensetWanted = false
  record : t.cu.lastDrop = some ⟨reason, match s.cu.active with | some a => a.number | none => 0⟩
  counter : t.cu.counter = s.cu.counter
  need : t.cu.chargeNeed = s.cu.chargeNeed
  reference : t.view.reference = none
  notices : s.queuedOn t (fun _ => True) (.contractDropped (match s.cu.active with | some a => a.number | none => 0) reason)
  blend : .blendImmediateRun ∈ t.signals
  mode : .modeDerivation ∈ t.signals
  commitment : s.cu.active ≠ none → .commitmentHanded 0 none ∈ t.signals

/-- The round has ended without activation (R47): with no contract the part rests for 500 ms, with one the round is IDLE and the
contract stands. Nothing has gone to any port. -/
def State.roundEnded (s t : State) : Prop :=
  t.ports = s.ports ∧
    t.cu = { s.cu with
      proposal := none, window := .stopped, settled := false
      round := if s.cu.active = none then .resting else .idle
      rest := if s.cu.active = none then .running 500 else s.cu.rest
      lastSelection := t.cu.lastSelection, gensetWanted := t.cu.gensetWanted }

/-- Genset wanted has been evaluated from the state, and a change handed to the Genset Sequencer with its cause (R35, R64). -/
def State.wantedFrom (s t : State) : Prop :=
  (t.cu.gensetWanted = true ↔
    s.cu.chargeNeed = true ∨ ∃ u, (s.inputs.pass true).result = .ok u ∧ u.gensetIndex ≠ none) ∧
    (t.cu.gensetWanted ≠ s.cu.gensetWanted →
      .gensetWantedChange t.cu.gensetWanted (if s.cu.chargeNeed then .charge else .demand) ∈ t.signals)

/-- The last-selection record is that of a run made in the state (R34). -/
def State.recordedFrom (s t : State) : Prop :=
  let cands := s.inputs.candidates s.inputs.online
  let reasonOf := fun (u : Terms) =>
    match u.mismatch with
    | none => none
    | some .shortSupply => some SelectionReason.shortSupply
    | some .belowMinimum => some SelectionReason.belowMinimum
  t.cu.lastSelection =
    match (s.inputs.pass s.inputs.online).result with
    | .ok u =>
      ⟨if s.cu.active.map (·.terms) = some u then .same else .propose, reasonOf u, some u.storageIndex, u.gensetIndex,
        cands.length, (cands.filter (·.covered)).length⟩
    | .error r => ⟨.noTerms, some r, none, none, cands.length, (cands.filter (·.covered)).length⟩

/-- A run made in `s` has been taken, in `t`, up to the reselect-when-settled flag (R33 to R35, R42, R46, R50): a proposal, the
`count`th of its round; with the active contract's own terms, or none formed and its offer still usable, the end of the round; with
none formed and that offer not usable, the drop. `within` says that the run was made within a round. -/
structure State.ran (s t : State) (count : Nat) (within : Bool) : Prop where
  frame : Within contractPieces s t
  record : s.recordedFrom t
  proposes : ∀ u, (s.inputs.pass s.inputs.online).result = .ok u → (∀ a, s.cu.active = some a → a.terms ≠ u) →
    s.proposed t count u ∧ s.wantedFrom t
  same : ∀ u a, (s.inputs.pass s.inputs.online).result = .ok u → s.cu.active = some a → a.terms = u →
    s.wantedFrom t ∧ if within = true then s.roundEnded t else
      t.ports = s.ports ∧ t.cu = { s.cu with lastSelection := t.cu.lastSelection, gensetWanted := t.cu.gensetWanted }
  keeps : ∀ r, (s.inputs.pass s.inputs.online).result = .error r → (∀ a, s.cu.active = some a → s.restsOnUsable a) →
    s.wantedFrom t ∧ s.roundEnded t
  drops : ∀ r a, (s.inputs.pass s.inputs.online).result = .error r → s.cu.active = some a → ¬ s.restsOnUsable a →
    s.droppedFor t (if r = .supplyBelowAux then .supplyBelowAux else .noStorageOffer)
  view : t.view = { s.view with reference := t.view.reference }
  reference : s.cu.active = none → t.view.reference = some (s.inputs.req, s.inputs.minimum)

/-- A run made in `s` ends the round with a contract active (R46, R50): the terms are its own, within a round, or none are formed and
its offer is still usable. -/
def State.endsWithContract (s : State) (within : Bool) : Prop :=
  ∃ a, s.cu.active = some a ∧
    ((∃ u, (s.inputs.pass s.inputs.online).result = .ok u ∧ a.terms = u ∧ within = true) ∨
      (∃ r, (s.inputs.pass s.inputs.online).result = .error r ∧ s.restsOnUsable a))

/-- A run made in `s` has been taken with what the reselect-when-settled flag adds (R47, R52; log 14): a flag still set when the run
ends the round with a contract active is acted on once and cleared, by one more run; else the run alone. -/
def State.ranWithFlag (s t : State) (count : Nat) (within : Bool) : Prop :=
  (s.cu.settled = true → s.endsWithContract within → ∃ m, s.ran m count within ∧ m.cu.settled = false ∧ m.ran t 1 false) ∧
    (s.cu.settled = false ∨ ¬ s.endsWithContract within → s.ran t count within)

/-- A reselection trigger has been taken (R39, R52): nothing while the gate is not OPEN; a run while the round is IDLE, with the flag
set or clear; genset wanted evaluated alone while it is RESTING, and in a round with the reselect-when-settled flag set besides. -/
structure State.triggered (s t : State) : Prop where
  closed : s.cu.gate ≠ .opened → t = s
  runs : s.cu.gate = .opened → s.cu.round = .idle → s.ranWithFlag t 1 false
  absorbed : s.cu.gate = .opened → s.cu.round = .resting →
    Within [.cu, .signals, .freeCount] s t ∧ s.wantedFrom t ∧ t.cu = { s.cu with gensetWanted := t.cu.gensetWanted }
  deferred : ∀ n, s.cu.gate = .opened → s.cu.round = .inRound n →
    Within [.cu, .signals, .freeCount] s t ∧ s.wantedFrom t ∧ t.cu = { s.cu with settled := true, gensetWanted := t.cu.gensetWanted }

/-- The gate has been tested (R37, R38): it opens exactly when its conditions hold, and the opening is a trigger. -/
def State.gateTested (s t : State) : Prop :=
  let essentials := (s.port .traction).state = .up ∧ (s.port .pack).state = .up
  let opens :=
    (s.cu.gate = .blocked ∧ s.key = true ∧ essentials ∧ s.view.traction ≠ none ∧ s.view.pack ≠ none ∧ s.view.storage ≠ none) ∨
      (s.cu.gate = .safe ∧ essentials ∧ s.cu.sinceTraction = true ∧ s.cu.sincePack = true)
  (opens → ∃ m, Within [.cu, .signals] s m ∧ m.cu = { s.cu with gate := .opened } ∧ .modeDerivation ∈ m.signals ∧
    m.triggered t) ∧
    (¬ opens → t = s)

/-- The pending proposal, if there is one, has been withdrawn (R54). -/
def State.withdrawn (s m : State) : Prop :=
  match s.cu.proposal with
  | none => m = s
  | some p =>
    Within [.cu, .ports] s m ∧ m.cu = { s.cu with proposal := none, window := .stopped, round := .idle } ∧
      s.queuedOn m p.required.tells (.contractWithdrawn p.number)

/-- The active contract, its terms taken as `from_`, has been reduced to these powers (R56), or dropped. -/
def State.reduction (s m : State) (c : Contract) (from_ : Terms) (sAvail gAvail : Nat) : Prop :=
  match from_.reduce sAvail gAvail s.acceptance s.settings.regenCap s.tractionIn.giveBack with
  | .error reason => s.droppedFor m reason
  | .ok u =>
    m.cu = { s.cu with active := some ⟨c.number, u⟩ } ∧ m.view = { s.view with reference := some (u.basisReq, u.basisMin) } ∧
      s.queuedOn m (fun _ => True) (.contractRevised c.number u) ∧
      ∃ more, m.signals = s.signals ++ more ∧
        (.commitmentHanded u.commitment u.gensetIndex ∈ more ↔
          u.commitment ≠ c.terms.commitment ∨ u.gensetIndex ≠ c.terms.gensetIndex) ∧
        (.blendImmediateRun ∈ more ↔ u.ceiling < c.terms.ceiling)

/-- The active contract has been reduced as the condition calls for (R55). -/
def State.reducedWhen (s m : State) (condition : Terms → Prop) (sAvail gAvail : Terms → Nat) : Prop :=
  (∀ c, s.cu.active = some c → condition c.terms → s.reduction m c c.terms (sAvail c.terms) (gAvail c.terms)) ∧
    ((∀ c, s.cu.active = some c → ¬ condition c.terms) → m = s)

/-- The active contract has been revised for the effective acceptance (R53; log 24). -/
def State.revisedFor (s m : State) : Prop :=
  (s.cu.active = none → m = s) ∧
    ∀ c, s.cu.active = some c →
      let u := c.terms.refit s.acceptance s.settings.regenCap
      (u.ceiling = c.terms.ceiling → u.charge = c.terms.charge → Within [.freeCount] s m) ∧
        (u.ceiling ≠ c.terms.ceiling ∨ u.charge ≠ c.terms.charge →
          m.cu = { s.cu with active := some ⟨c.number, u⟩ } ∧
            m.view = { s.view with reference := some (u.basisReq, u.basisMin) } ∧
            s.queuedOn m (fun p => p = .traction ∨ p = .brake ∨ u.charge ≠ c.terms.charge) (.contractRevised c.number u) ∧
            (u.charge = c.terms.charge → m.port .pack = s.port .pack ∧ m.port .genset = s.port .genset) ∧
            ∃ more, m.signals = s.signals ++ more ∧
              (.commitmentHanded u.commitment u.gensetIndex ∈ more ↔ u.charge ≠ c.terms.charge) ∧
              (.blendImmediateRun ∈ more ↔ u.ceiling < c.terms.ceiling))

/-- A list as it was, but for the exclusion mark at one offer index (R8). -/
def excludedAt (old new : Option (Place (List Offer))) (index : Option Nat) : Prop :=
  match old with
  | none => new = none
  | some l => ∃ k, new = some k ∧ k.arrival = l.arrival ∧ k.held = l.held ∧ k.content.length = l.content.length ∧
      ∀ (i : Nat) (o : Offer), l.content[i]? = some o →
        k.content[i]? = some (if index = some (i + 1) then { o with excluded := true } else o)

/-- The pending proposal has been discarded as declined by these parties (R46, R49, R59): withdrawn from the told parties, recorded,
and its offers marked if the lists it spoke of are still held. -/
def State.discarded (s m : State) (p : Proposal) (parties : PartySet) (reason : DeclineReason) : Prop :=
  m.cu = { s.cu with proposal := none, window := .stopped, lastDecline := some ⟨parties, reason, p.number⟩ } ∧
    s.queuedOn m p.required.tells (.contractWithdrawn p.number) ∧
    m.view = { s.view with storage := m.view.storage, gensetList := m.view.gensetList } ∧
    excludedAt s.view.storage m.view.storage
      (if parties.pack = true ∧ p.storageSerial = s.view.storageSerial then some p.terms.storageIndex else none) ∧
    excludedAt s.view.gensetList m.view.gensetList
      (if parties.genset = true ∧ p.gensetSerial = s.view.gensetSerial then p.terms.gensetIndex else none) ∧
    m.signals = s.signals

/-- What follows a proposal so discarded (R46, R47, R49): the round ends if the Traction port declined or the count is 3, a run being
taken as a new round if the flag is set and a contract is active; else a run is taken within the round, with the flag set or clear. -/
structure State.continued (m t : State) (traction : Bool) : Prop where
  ends : (traction = true ∨ ∀ k, m.cu.round = .inRound k → 3 ≤ k) → (m.cu.settled = false ∨ m.cu.active = none) →
    t = { m with cu := { m.cu with
      proposal := none, window := .stopped, settled := false
      round := if m.cu.active = none then .resting else .idle
      rest := if m.cu.active = none then .running 500 else m.cu.rest } }
  flagged : (traction = true ∨ ∀ k, m.cu.round = .inRound k → 3 ≤ k) → m.cu.settled = true → m.cu.active ≠ none →
    State.ran
      { m with cu := { m.cu with proposal := none, window := .stopped, round := .idle, settled := false } } t 1 false
  goesOn : traction = false → ∀ k, m.cu.round = .inRound k → k < 3 → m.ranWithFlag t (k + 1) true

/-- The active contract's peak expiry has been set afresh from the storage list now held (R48). -/
def State.peakRefreshed (s m : State) : Prop :=
  (s.cu.active = none → m = s) ∧
    ∀ c, s.cu.active = some c →
      let d := (entryAt s.view.storage c.terms.storageIndex).bind (·.duration)
      m.cu.active = some ⟨c.number, { c.terms with peak := d }⟩ ∧
        m.cu.peak = (match d with | some k => .running (1000 * k) | none => .stopped) ∧
        m.cu = { s.cu with active := m.cu.active, peak := m.cu.peak, peakSerial := m.cu.peakSerial } ∧
        (d = c.terms.peak → m.ports = s.ports) ∧
        (d ≠ c.terms.peak → s.queuedOn m (fun _ => True) (.contractRevised c.number { c.terms with peak := d }))

/-- An offer list has been taken while the gate is OPEN, up to its trigger (R48, R54, R55). -/
def State.listTaken (s m : State) : Supplier → Prop
  | .pack => ∃ w r, s.withdrawn w ∧
      w.reducedWhen r (fun u => w.effAt u.storageIndex < u.share ∨ entryAt w.view.storage u.storageIndex = none)
        (fun u => w.effAt u.storageIndex) (fun u => u.commitment) ∧
      r.peakRefreshed m
  | .genset => ∃ w, ((∃ p, s.cu.proposal = some p ∧ p.required.genset = true) → s.withdrawn w) ∧
      ((∀ p, s.cu.proposal = some p → p.required.genset = false) → w = s) ∧
      w.reducedWhen m
        (fun u => u.gensetIndex ≠ none ∧
          (w.gensetAt (u.gensetIndex.getD 0) < u.commitment ∨ entryAt w.view.gensetList (u.gensetIndex.getD 0) = none))
        (fun u => w.effAt u.storageIndex) (fun u => w.gensetAt (u.gensetIndex.getD 0))

/-! ### The Genset Sequencer (chapter 4) -/

/-- Start permission (R66): the key on, the Genset port UP, and the zone clear or the SoC held below the critical mark. -/
def State.permitsStart (s : State) : Prop :=
  s.key = true ∧ (s.port .genset).state = .up ∧
    (s.quiet = false ∨ ∃ p, s.view.pack = some p ∧ p.content.soc < s.settings.criticalMark)

/-- Start need (R66). -/
def State.needsStart (s : State) : Prop := s.gs.wantedCopy = true ∧ s.permitsStart

/-- The command has been queued on the Genset port if that is UP, and nothing else of any port has changed (R83). -/
def State.commanded (s t : State) (c : GensetCommand) (index : Option Nat) (kw : Nat) : Prop :=
  (∀ q, q ≠ .genset → t.port q = s.port q) ∧
    t.port .genset = { s.port .genset with queue := (t.port .genset).queue, exchange := (t.port .genset).exchange } ∧
    ((s.port .genset).state = .up → .gensetCommand c index kw ∈ (t.port .genset).queue) ∧
    ((s.port .genset).state ≠ .up → t.ports = s.ports)

/-- The signals raised since. -/
def State.raised (s t : State) (l : List Instr) : Prop := t.signals = s.signals ++ l

/-- What leaving ONLINE raises (R72). -/
def leavingSignals (was : GensetState) : List Instr := if was = .online then [.gensetLeavesOnline] else []

/-- The cooldown a state starts (R76), ms. -/
def State.cooldownMs (s : State) : Nat := 1000 * if s.quiet then s.settings.quietCooldown else s.settings.cooldown

/-- The genset has been locked out (R68, R69, R77, R78). -/
def State.locked (s t : State) (cause : StopCause) (code : Option Nat) : Prop :=
  t.gs = { s.gs with
      state := .lockedOut, stopCause := cause, lockoutCode := if cause = .fault then code else none,
      crank := .stopped, rest := .stopped, warm := .stopped, idleOff := .stopped, cooldown := .stopped } ∧
    s.raised t (leavingSignals s.gs.state ++ [.conditionLevelChange [.gensetLockout true]])

/-- A start from STOPPED has been taken (R68): the next attempt, or after three the lockout. -/
def State.started (s t : State) (cause : StartCause) : Prop :=
  (s.gs.attempts < 3 → t.gs = { s.gs with
      state := .cranking, attempts := s.gs.attempts + 1, crank := .running (1000 * s.settings.crank), startCause := cause } ∧
    s.commanded t .start none 0 ∧ s.raised t []) ∧
    (3 ≤ s.gs.attempts → s.locked t .noStart none ∧ s.commanded t .stop none 0)

/-- The idle-off timer has expired (R74). -/
def State.idledOff (s t : State) (cause : StopCause) : Prop :=
  t.gs = { s.gs with
      state := .cooldown, stopCause := cause, lockoutCode := none, idleOff := .stopped, cooldown := .running s.cooldownMs } ∧
    s.commanded t .cooldown none 0 ∧ s.raised t (leavingSignals s.gs.state)

/-- The idle-off timer as a start or restart leaves it (R73). -/
def idleStarted (code : Nat) : Timer :=
  if code = 0 then .endless
  else .running (1000 * ([0, 1, 2, 3, 4, 5, 6, 7, 10, 15, 20, 30, 45, 60, 90, 120].getD code code))

/-- R73 has been applied. -/
def State.idleRuled (s t : State) : Prop :=
  (s.gs.state ≠ .online → t = s) ∧
    (s.gs.state = .online → (s.gs.heldIndex ≠ none ∨ s.gs.wantedCopy = true → t = { s with gs := { s.gs with idleOff := .stopped } }) ∧
      (s.gs.heldIndex = none → s.gs.wantedCopy = false →
        (s.gs.idleOff ≠ .stopped → t = s) ∧
        (s.gs.idleOff = .stopped → s.quiet = false →
          t = { s with gs := { s.gs with idleOff := idleStarted s.settings.idleOffCode } }) ∧
        (s.gs.idleOff = .stopped → s.quiet = true → s.idledOff t .quietZone)))

/-- ONLINE has been entered (R72, R73). -/
def State.enteredOnline (s t : State) : Prop :=
  ∃ m, m.gs = { s.gs with state := .online, attempts := 0, warm := .stopped, cooldown := .stopped } ∧
    s.commanded m .operate s.gs.heldIndex s.gs.heldKw ∧ s.raised m [.gensetEntersOnline] ∧ Within gensetPieces s m ∧
    m.idleRuled t

/-- Start need has been evaluated (R66, R68, R76). -/
def State.evaluated (s t : State) : Prop :=
  (s.needsStart → s.gs.state = .stopped →
    s.started t (match s.gs.wantCause with | some .demand => .demand | some .charge => .charge | none => .none)) ∧
    (s.needsStart → s.gs.state = .cooldown → s.enteredOnline t) ∧
    (¬ s.needsStart ∨ (s.gs.state ≠ .stopped ∧ s.gs.state ≠ .cooldown) → t = s)

/-- STOPPED has been entered, its command queued and its timer stopped as the entry's rule gives, and start need evaluated (R66). -/
def State.enteredStopped (s t : State) (command : Option GensetCommand) (g : Sequencer) : Prop :=
  ∃ m, m.gs = { g with state := .stopped } ∧ s.raised m [] ∧ Within gensetPieces s m ∧
    (∀ c, command = some c → s.commanded m c none 0) ∧ (command = none → m.ports = s.ports) ∧ m.evaluated t

/-- COOLDOWN has been entered with COOLDOWN queued, and start need evaluated (R66, R67, R76, R79). -/
def State.enteredCooldown (s t : State) : Prop :=
  ∃ m, m.gs = { s.gs with state := .cooldown, cooldown := .running s.cooldownMs } ∧ s.raised m [] ∧ Within gensetPieces s m ∧
    s.commanded m .cooldown none 0 ∧ m.evaluated t

/-! ### Auxiliary outputs and blend (chapters 5 and 6) -/

/-- Every line is driven at the level of R92: high exactly where the current vector's bit and the polarity agree. -/
def State.driven (s : State) : Prop :=
  ∃ levels, s.aux.lines = .driven levels ∧
    ∀ i : Nat, i < 8 →
      (levels.getLsbD i = true ↔ (s.settings.vectors.get s.aux.mode).getLsbD i = s.settings.polarity.getLsbD i)

/-- The lines have been driven since, if they were driven before; high-impedance lines stay so (R93). -/
def State.redriven (s t : State) : Prop := (s.aux.lines = .highZ → t.aux.lines = .highZ) ∧ (s.aux.lines ≠ .highZ → t.driven)

/-- The aux allowance of a mode is the sum of the rated draws its vector enables (R90). -/
def State.allowed (s : State) : Prop :=
  ∀ m, s.aux.allowances.get m =
    ((List.range s.settings.draws.length).map fun i =>
      if (s.settings.vectors.get m).getLsbD i then s.settings.draws.getD i 0 else 0).sum

/-- A run of the Blend Unit has been taken, periodic or immediate (R101, R112 to R114): the inputs read, the record of the run, the
hand-off of the result before it, and each command queued on an UP port whose last-queued copy is absent or differs. -/
structure State.blendRan (s t : State) (periodic : Bool) : Prop where
  record : ∃ i : BlendInputs,
    (i.v, i.rMot) = (match s.view.traction with | some p => (p.content.v, p.content.rMot) | none => (0, 0)) ∧
    i.demand = (match s.view.brake with | some p => p.content | none => ⟨0, 80, 0, 0, 0, false, false, false, false⟩) ∧
    i.contract = s.cu.active.map (fun c => (c.terms.ceiling, c.terms.aux)) ∧
    (i.brakeUp = true ↔ (s.port .brake).state = .up) ∧ i.key = s.key ∧ i.fade = s.blend.fade ∧
    i.prev = s.blend.result.applied ∧
    t.blend = { s.blend with
      result := (i.run s.settings periodic).result
      step := (i.run s.settings periodic).step
      clipped := (i.run s.settings periodic).clipped
      forced := ⟨i.contract.isNone, !i.brakeUp, i.demand.abs3, !i.key⟩
      lastRun := s.ms
      regenCopy := t.blend.regenCopy
      frictionCopy := t.blend.frictionCopy }
  handed : ∃ dt, t.signals = s.signals ++ [.frictionHandOff s.blend.result.wheels dt] ∧
    (s.blend.lastRun ≤ s.ms → s.ms < 4294967296 → dt = s.ms - s.blend.lastRun)
  regen :
    let r := t.blend.result.applied
    let d := t.blend.result.dRegen
    ((s.port .traction).state = .up → s.blend.regenCopy ≠ some (r, d) →
      t.blend.regenCopy = some (r, d) ∧ .regenCommand r d ∈ (t.port .traction).queue) ∧
    ((s.port .traction).state ≠ .up ∨ s.blend.regenCopy = some (r, d) →
      t.blend.regenCopy = s.blend.regenCopy ∧ t.port .traction = s.port .traction)
  friction :
    let r := t.blend.result
    let c : FrictionCopy := ⟨r.dFriction, r.friction, r.axle1, r.axle2, r.axle3⟩
    ((s.port .brake).state = .up → s.blend.frictionCopy ≠ some c →
      t.blend.frictionCopy = some c ∧ .frictionCommand c ∈ (t.port .brake).queue) ∧
    ((s.port .brake).state ≠ .up ∨ s.blend.frictionCopy = some c →
      t.blend.frictionCopy = s.blend.frictionCopy ∧ t.port .brake = s.port .brake)
  queues : ∀ p, t.port p = { s.port p with queue := (t.port p).queue, exchange := (t.port p).exchange }
  others : t.port .pack = s.port .pack ∧ t.port .genset = s.port .genset
  frame : Within [.blend, .ports, .signals] s t

/-! ### Wear (chapters 7 and 8) -/

/-- A pad grade is the figure of its account and life (R124). -/
def WheelEnd.graded (e : WheelEnd) : Prop := e.grade = min 7 (8 * e.account / (e.life * 1000))

/-- A fade flag is that of its temperature and the threshold (R125). -/
def WheelEnd.flagged (e : WheelEnd) (x : Settings) : Prop := e.fade = true ↔ 16 * x.fadeThreshold ≤ e.theta

/-- The wheel ends have been changed: each grade and flag that moved has been handed to the Warning Unit, in one event, and a moved
any-fade level to the Blend Unit (R122, R125). -/
def State.wheelsHanded (s t : State) : Prop :=
  (t.wear.anyFade = true ↔ ∃ w, (t.wear.wheels.get w).fade = true) ∧
    t.wear.battery = s.wear.battery ∧ t.wear.engine = s.wear.engine ∧
    ∃ levels : List OwnerLevel,
      t.signals = s.signals ++ (if levels = [] then [] else [.conditionLevelChange levels]) ++
        (if t.wear.anyFade = s.wear.anyFade then [] else [.fadeCopyUpdate t.wear.anyFade]) ∧
      ∀ l, l ∈ levels ↔ ∃ w,
        (l = .padGrade w (t.wear.wheels.get w).grade ∧ (t.wear.wheels.get w).grade ≠ (s.wear.wheels.get w).grade) ∨
          (l = .fade w (t.wear.wheels.get w).fade ∧ (t.wear.wheels.get w).fade ≠ (s.wear.wheels.get w).fade)

/-- The battery grade and derate are the figures of the account and life (R132). -/
def BatteryRecord.figured (b : BatteryRecord) : Prop :=
  b.grade = min 7 (8 * b.account / b.life) ∧
    b.derate = (if b.grade < 4 then 0 else if b.grade = 4 then 5 else if b.grade = 5 then 10 else if b.grade = 6 then 15 else 20)

/-- The engine grade and penalty are the figures of the account and life (R133, R134). -/
def EngineRecord.figured (e : EngineRecord) : Prop :=
  e.grade = min 7 (8 * e.account / e.life) ∧ e.penalty = (if 6 ≤ e.grade then 4 else 0)

/-- The battery record has been changed: its grade and derate are the figures of its account and life, and each that moved has been
handed on (R132). -/
def State.batteryHanded (s t : State) : Prop :=
  let b := t.wear.battery
  t.wear = { s.wear with battery := b } ∧ b.figured ∧
    t.signals = s.signals ++ (if b.grade = s.wear.battery.grade then [] else [.conditionLevelChange [.batteryGrade b.grade]]) ++
      (if b.derate = s.wear.battery.derate then [] else [.derateChange])

/-- The engine record has been changed, as the battery record (R133, R134). -/
def State.engineHanded (s t : State) : Prop :=
  let e := t.wear.engine
  t.wear = { s.wear with engine := e } ∧ e.figured ∧
    t.signals = s.signals ++ (if e.grade = s.wear.engine.grade then [] else [.conditionLevelChange [.engineGrade e.grade]]) ++
      (if e.penalty = s.wear.engine.penalty then [] else [.penaltyChange])

/-- What a wear save takes (R165, R166): the accounts, residues and lives of the records as they stand. -/
structure WearContents.takenFrom (x : WearContents) (w : WearUnit) : Prop where
  pads : ∀ e, x.padAccount.get e = (w.wheels.get e).account ∧ x.padResidue.get e = (w.wheels.get e).residue ∧
    x.padLife.get e = (w.wheels.get e).life
  battery : x.batteryAccount = w.battery.account ∧ x.batteryResidue = w.battery.residue ∧ x.batteryLife = w.battery.life
  engine : x.engineAccount = w.engine.account ∧ x.engineLife = w.engine.life

/-- A wear save has been requested (R166): it begins from the records as they stand, or is remembered while a write goes on. -/
def State.saveRequested (s t : State) : Prop :=
  (s.store.phase = .idle ∨ s.store.phase = .failed →
    ∃ x : WearContents, x.takenFrom t.wear ∧ t.store = { s.store with phase := .writingWear x }) ∧
    (s.store.phase ≠ .idle → s.store.phase ≠ .failed → t.store = { s.store with pendingSave := true })

/-! ### Warnings (chapter 9) -/

/-- The place of a condition's warning in the table, its code less 1 (R139). -/
def levelPlace : OwnerLevel → Nat
  | .padGrade w _ => w.index
  | .fade w _ => 6 + w.index
  | .batteryGrade _ => 12
  | .engineGrade _ => 13
  | .gensetLockout _ => 14
  | .mismatch _ => 15
  | .safeState _ => 16
  | .portLost p _ => 17 + p.index
  | .settingsBad _ => 21
  | .wearBad _ => 22

/-- The condition is true at the level handed (R139, R140). -/
def levelHolds (x : Settings) : OwnerLevel → Prop
  | .padGrade _ g => x.padWarn ≤ g
  | .fade _ on => on = true
  | .batteryGrade g => x.batteryWarn ≤ g
  | .engineGrade g => x.engineWarn ≤ g
  | .gensetLockout on => on = true
  | .mismatch on => on = true
  | .safeState on => on = true
  | .portLost _ on => on = true
  | .settingsBad on => on = true
  | .wearBad on => on = true

/-- The level is its owner's as that stands (R139, R142). -/
def State.stands (s : State) : OwnerLevel → Prop
  | .padGrade w g => g = (s.wear.wheels.get w).grade
  | .fade w on => on = (s.wear.wheels.get w).fade
  | .batteryGrade g => g = s.wear.battery.grade
  | .engineGrade g => g = s.wear.engine.grade
  | .gensetLockout on => on = true ↔ s.gs.state = .lockedOut
  | .mismatch on => on = true ↔ ∃ c, s.cu.active = some c ∧ c.terms.mismatch ≠ none
  | .safeState on => on = true ↔ s.cu.gate = .safe
  | .portLost p on => on = true ↔ (s.port p).state = .lost
  | .settingsBad on => on = s.store.settingsBad
  | .wearBad on => on = s.store.wearBad

/-- The group summaries and the service attention line are those of the latches and masks (R144, R145). -/
structure State.summarised (s : State) : Prop where
  wheel : s.warn.summaries.wheel = true ↔ ∃ i : Nat, i < 12 ∧ s.warn.latched.getLsbD i = true
  powertrain : s.warn.summaries.powertrain = true ↔ ∃ i : Nat, 12 ≤ i ∧ i < 17 ∧ s.warn.latched.getLsbD i = true
  link : s.warn.summaries.link = true ↔ ∃ i : Nat, 17 ≤ i ∧ i < 21 ∧ s.warn.latched.getLsbD i = true
  store : s.warn.summaries.store = true ↔ ∃ i : Nat, 21 ≤ i ∧ i < 23 ∧ s.warn.latched.getLsbD i = true
  line : s.warn.serviceLow = true ↔ s.settings.globalMask = false ∧
    ∃ i : Nat, i < 24 ∧ s.warn.latched.getLsbD i = true ∧ (s.settings.masks.getD i 0#5).getLsbD 4 = true

/-- A warning's notice has gone to each UP port in its mask, with the warnings latched whose masks include that port, and to no
other (R143). -/
def State.warned (s m : State) (i : Nat) : Prop :=
  ∀ p : Port,
    let told := s.settings.globalMask = false ∧ (s.port p).state = .up ∧ (s.settings.masks.getD i 0#5).getLsbD p.index = true
    (told → m.port p = { s.port p with queue := (m.port p).queue, exchange := (m.port p).exchange } ∧
      ∃ set : BitVec 24, .warning (i + 1) set ∈ (m.port p).queue ∧
        ∀ j : Nat, j < 24 → (set.getLsbD j = true ↔
          m.warn.latched.getLsbD j = true ∧ (s.settings.masks.getD j 0#5).getLsbD p.index = true)) ∧
      (¬ told → m.port p = s.port p)

/-- One condition's level has been taken (R140, R141): nothing if it stands as it was; else the new level, and on a change that
matches the edge selection and finds the warning unlatched, the latch, the notices, the summaries and the line. -/
structure State.leveled (s m : State) (l : OwnerLevel) : Prop where
  frame : Within [.warn, .ports] s m
  same : (s.warn.levels.getLsbD (levelPlace l) = true ↔ levelHolds s.settings l) → m = s
  level : ∀ j : Nat, j < 24 →
    (m.warn.levels.getLsbD j = true ↔ if j = levelPlace l then levelHolds s.settings l else s.warn.levels.getLsbD j = true)
  latches : ¬ (s.warn.levels.getLsbD (levelPlace l) = true ↔ levelHolds s.settings l) →
    (match s.settings.edges.getD (levelPlace l) .rise with
      | .rise => levelHolds s.settings l
      | .fall => ¬ levelHolds s.settings l
      | .both => True) →
    s.warn.latched.getLsbD (levelPlace l) = false →
    (∀ j : Nat, j < 24 → (m.warn.latched.getLsbD j = true ↔ j = levelPlace l ∨ s.warn.latched.getLsbD j = true)) ∧
      m.summarised ∧ s.warned m (levelPlace l)
  keeps : s.warn.latched.getLsbD (levelPlace l) = true ∨
    (match s.settings.edges.getD (levelPlace l) .rise with
      | .rise => ¬ levelHolds s.settings l
      | .fall => levelHolds s.settings l
      | .both => False) →
    m = { s with warn := { s.warn with levels := m.warn.levels } }

/-- Levels have been taken one after another (R140). -/
def State.leveledAll (s t : State) : List OwnerLevel → Prop
  | [] => t = s
  | l :: ls => ∃ m : State, s.leveled m l ∧ m.leveledAll t ls

/-! ### The Service port and the store (chapter 11) -/

/-- The bytes a transaction of `n` bytes carried of a frame: its bytes in order, then 0x00 (R148, R159). -/
def carries (out frame : List Byte) (n : Nat) : Prop :=
  out.length = n ∧ ∀ i : Nat, i < n → out[i]? = some (frame.getD i 0#8)

/-- CLEAR_WARNINGS as its kind and payload, the codes' low byte first (R160). -/
def encodeClear : Instr → Option (Nat × List Byte)
  | .clearWarnings codes => some (0x62, [codes.extractLsb' 0 8, codes.extractLsb' 8 8, codes.extractLsb' 16 8])
  | _ => none

/-- A request of the service controller as its kind and payload (R160, R161): WRITE_ITEM by the number of the item its row is for. -/
def encodeService : Instr → Option (Nat × List Byte)
  | .serviceStatusQuery => some (0x02, [])
  | .readItem n => if n = 0x209 then none else some (0x60, le16 n)
  | .activityStatusRead => some (0x60, le16 0x209)
  | .writeItem n copy v =>
    if writeCommand n copy v = .writeItem n copy v then some (0x61, le16 n ++ [if copy then 1#8 else 0#8] ++ le32 v) else none
  | .writeModeVector m v =>
    some (0x61, le16 (match m with | .electric => 0x520 | .hybrid => 0x521 | .charge => 0x522 | .safe => 0x523) ++ [0#8] ++ le32 v)
  | .writeRatedDraw line v => some (0x61, le16 (0x528 + line) ++ [0#8] ++ le32 v)
  | .writePolarity line v => some (0x61, le16 (0x530 + line) ++ [0#8] ++ le32 v)
  | .writePadAccount w copy v => some (0x61, le16 (0x398 + w.index) ++ [if copy then 1#8 else 0#8] ++ le32 v)
  | .writePadLife w copy v => some (0x61, le16 (0x3A8 + w.index) ++ [if copy then 1#8 else 0#8] ++ le32 v)
  | .writeHeatCapacity w copy v => some (0x61, le16 (0x3B0 + w.index) ++ [if copy then 1#8 else 0#8] ++ le32 v)
  | .writeBatteryAccount v => some (0x61, le16 0x400 ++ [0#8] ++ le32 v)
  | .writeBatteryLife v => some (0x61, le16 0x402 ++ [0#8] ++ le32 v)
  | .writeEngineAccount v => some (0x61, le16 0x405 ++ [0#8] ++ le32 v)
  | .writeEngineLife v => some (0x61, le16 0x406 ++ [0#8] ++ le32 v)
  | .writeFadeThreshold v => some (0x61, le16 0x554 ++ [0#8] ++ le32 v)
  | .writeWarnGrade k v =>
    some (0x61, le16 (match k with | .pad => 0x5A0 | .battery => 0x5A1 | .engine => 0x5A2) ++ [0#8] ++ le32 v)
  | .writeChargeMark m v => some (0x61, le16 (match m with | .start => 0x502 | .stop => 0x503) ++ [0#8] ++ le32 v)
  | .writeCriticalMark v => some (0x61, le16 0x504 ++ [0#8] ++ le32 v)
  | .writeDeliveryMask t v =>
    some (0x61, le16 (match t with | .code c => 0x580 + (c - 1) | .globalMask => 0x5A3) ++ [0#8] ++ le32 v)
  | .wearResetPad n copy => some (0x63, [BitVec.ofNat 8 n, if copy then 1#8 else 0#8])
  | .wearResetBattery => some (0x63, [6#8, 0#8])
  | .wearResetEngine => some (0x63, [7#8, 0#8])
  | .clearLockout => some (0x64, [])
  | .activity => some (0x65, [])
  | .setQuietZone on => some (0x66, [if on then 1#8 else 0#8])
  | .portReset n => some (0x67, [BitVec.ofNat 8 n])
  | .tallyClear n => some (0x68, [BitVec.ofNat 8 n])
  | .drivelineReset => some (0x69, [])
  | .commit => some (0x6A, [])
  | i => encodeClear i

/-- The numbers of the item map of R161, first and last of each run. -/
def itemRuns : List (Nat × Nat) :=
  [(0x000, 0x008), (0x010, 0x016), (0x020, 0x025), (0x030, 0x03B), (0x040, 0x041), (0x048, 0x04E), (0x050, 0x056),
    (0x058, 0x05E), (0x060, 0x066), (0x068, 0x06E), (0x070, 0x076), (0x080, 0x081), (0x088, 0x08E), (0x090, 0x096),
    (0x098, 0x09E), (0x0A0, 0x0A6), (0x0A8, 0x0AE), (0x0B0, 0x0B6), (0x0C0, 0x0C2), (0x100, 0x104), (0x110, 0x11F),
    (0x120, 0x12F), (0x130, 0x131), (0x138, 0x13A), (0x13C, 0x13D), (0x140, 0x145), (0x148, 0x14A), (0x150, 0x155),
    (0x200, 0x20E), (0x280, 0x286), (0x300, 0x31F), (0x380, 0x385), (0x388, 0x38D), (0x390, 0x395), (0x398, 0x39D),
    (0x3A0, 0x3A5), (0x3A8, 0x3AD), (0x3B0, 0x3B5), (0x3B8, 0x3BD), (0x3C0, 0x3C5), (0x3C8, 0x3C9), (0x400, 0x408),
    (0x440, 0x49B), (0x4A0, 0x4A4), (0x4C0, 0x4C7), (0x4D0, 0x4D7), (0x4E0, 0x4E7), (0x4F0, 0x4F7), (0x500, 0x504),
    (0x508, 0x50A), (0x510, 0x519), (0x520, 0x523), (0x528, 0x52F), (0x530, 0x537), (0x540, 0x548), (0x550, 0x554),
    (0x558, 0x559), (0x560, 0x576), (0x580, 0x596), (0x5A0, 0x5A3), (0x5B0, 0x5B0), (0x5B8, 0x5B8), (0x600, 0x605)]

/-- The map assigns this number (R161). -/
def itemAssigned (n : Nat) : Prop := ∃ r ∈ itemRuns, r.1 ≤ n ∧ n ≤ r.2

/-- The item can be written (R160): the pad accounts, pad lives and heat capacities, the battery's and the engine's accounts and
lives, and the settings. -/
def itemWritable (n : Nat) : Prop :=
  (0x398 ≤ n ∧ n ≤ 0x39D) ∨ (0x3A8 ≤ n ∧ n ≤ 0x3AD) ∨ (0x3B0 ≤ n ∧ n ≤ 0x3B5) ∨ n = 0x400 ∨ n = 0x402 ∨ n = 0x405 ∨
    n = 0x406 ∨ (itemAssigned n ∧ 0x500 ≤ n ∧ n ≤ 0x5FF)

/-! ### What the items read (R161) -/

/-- The item at each number from this one on reads these values. -/
def State.shows (s : State) (first : Nat) (values : List Int) : Prop :=
  ∀ (k : Nat) (v : Int), values[k]? = some v → s.readItem (first + k) = some v

/-- A field that may be absent, which then reads -1. -/
def orAbsent : Option Nat → Int
  | none => -1
  | some n => n

/-- A flag reads 0 or 1. -/
def flagItem (b : Bool) : Int := if b then 1 else 0

/-- A time remaining in ms; a timer that is stopped, or runs without end, has none (log 17). -/
def timeLeft : Timer → Int
  | .running n => n
  | .stopped => -1
  | .endless => -1

/-- The items of an offer entry. -/
def Offer.shown (o : Offer) : List Int :=
  [if o.duration = none then 0 else 1, orAbsent o.duration, o.power, o.cost, flagItem o.quiet, flagItem o.excluded,
    flagItem o.expired]

/-- The items of a list from its count and those of its entries: count, age, and each entry 8 numbers after the one before. -/
def State.listShown (s : State) (count first : Nat) (list : Option (Place (List Offer))) : Prop :=
  (list = none → s.shows count [0, -1] ∧ ∀ i : Nat, i < 6 → s.shows (first + 8 * i) [-1, -1, -1, -1, -1, -1, -1]) ∧
    ∀ l, list = some l → s.shows count [l.content.length, s.ageOf l.arrival] ∧
      ∀ i : Nat, i < 6 → s.shows (first + 8 * i)
        (match l.content[i]? with | some o => o.shown | none => [-1, -1, -1, -1, -1, -1, -1])

/-- The sixteen items of a contract or proposal. -/
def termsShown (number : Nat) (t : Terms) : List Int :=
  [number, t.basisReq, t.basisMin, t.grant, t.storageIndex, t.share, orAbsent t.gensetIndex, t.commitment, t.aux, t.charge,
    t.ceiling, match t.mode with | .electric => 0 | .hybrid => 1 | .charge => 2 | .safe => 3,
    if t.mismatch = none then 0 else 1,
    match t.mismatch with | none => -1 | some .shortSupply => 0 | some .belowMinimum => 1,
    flagItem t.reduced, orAbsent t.peak]

/-- A set of parties as bits. -/
def PartySet.shown (x : PartySet) : Int := flagItem x.traction + 2 * flagItem x.pack + 4 * flagItem x.genset

/-- The Partner View's items: 0x000 to 0x0FF. -/
structure State.viewShown (s : State) : Prop where
  traction : s.shows 0x000 (match s.view.traction with
    | none => [0, -1, -1, -1, -1, -1, -1, -1, -1]
    | some x => [1, flagItem x.held, s.ageOf x.arrival, x.content.v, x.content.pReq, x.content.pMin, flagItem x.content.giveBack,
        x.content.rMot, x.content.motorTemp])
  pack : s.shows 0x010 (match s.view.pack with
    | none => [0, -1, -1, -1, -1, -1, -1]
    | some x => [1, flagItem x.held, s.ageOf x.arrival, x.content.soc, x.content.temp, x.content.pPack, x.content.aAcc])
  genset : s.shows 0x020 (match s.view.genset with
    | none => [0, -1, -1, -1, -1, -1]
    | some x => [1, flagItem x.held, s.ageOf x.arrival,
        match x.content.condition with | .stopped => 0 | .cranking => 1 | .running => 2 | .fault => 3,
        x.content.coolant, orAbsent x.content.fault])
  brake : s.shows 0x030 (match s.view.brake with
    | none => [0, -1, -1, -1, -1, -1, -1, -1, -1, -1, -1, -1]
    | some x => [1, flagItem x.held, s.ageOf x.arrival, x.content.d, x.content.m, x.content.load1, x.content.load2, x.content.load3,
        flagItem x.content.abs1, flagItem x.content.abs2, flagItem x.content.abs3, flagItem x.content.parking])
  storage : s.listShown 0x040 0x048 s.view.storage
  gensetList : s.listShown 0x080 0x088 s.view.gensetList
  reference : s.shows 0x0C0 (match s.view.reference with | none => [0, -1, -1] | some (req, low) => [1, req, low])

/-- The Contract Unit's items: 0x100 to 0x1FF. -/
structure State.contractShown (s : State) : Prop where
  protocol : s.shows 0x100
    [match s.cu.gate with | .blocked => 0 | .opened => 1 | .safe => 2,
      match s.cu.round with | .idle => 0 | .resting => 1 | .inRound _ => 2,
      match s.cu.round with | .idle => -1 | .resting => -1 | .inRound n => n,
      flagItem s.cu.settled, s.cu.counter]
  active : s.shows 0x110 (match s.cu.active with | none => List.replicate 16 (-1) | some c => termsShown c.number c.terms)
  proposal : s.shows 0x120 (match s.cu.proposal with | none => List.replicate 16 (-1) | some p => termsShown p.number p.terms)
  parties : s.shows 0x130 (match s.cu.proposal with | none => [-1, -1] | some p => [p.required.shown, p.accepted.shown])
  decline : s.shows 0x138 (match s.cu.lastDecline with
    | none => [-1, -1, -1]
    | some d => [d.ports.shown,
        match d.reason with
        | .overLimit => 0 | .notReady => 1 | .thermal => 2 | .other => 3 | .timeout => 4 | .lost => 5, d.number])
  drop : s.shows 0x13C (match s.cu.lastDrop with
    | none => [-1, -1]
    | some d => [match d.reason with
        | .tractionLost => 0 | .packLost => 1 | .supplyBelowAux => 2 | .noStorageOffer => 3
        | .belowMinimum => 4 | .noGiveBack => 5 | .keyOff => 6 | .drivelineReset => 7, d.number])
  selection : let r := s.cu.lastSelection
    s.shows 0x140 [match r.outcome with | .notRun => 0 | .propose => 1 | .same => 2 | .noTerms => 3,
      match r.reason with
      | none => -1 | some .shortSupply => 0 | some .belowMinimum => 1 | some .noStorageOffer => 2 | some .supplyBelowAux => 3,
      orAbsent r.storageIndex, orAbsent r.gensetIndex, r.formed, r.covered]
  need : s.shows 0x148 [flagItem s.cu.chargeNeed, flagItem s.cu.gensetWanted,
    match s.view.pack with
    | none => -1
    | some x => ((x.content.aAcc * (100 - s.wear.battery.derate) / 100 : Nat) : Int)]
  powers : ∀ i : Nat, i < 6 → s.shows (0x150 + i)
    [match s.view.storage.bind fun l => l.content[i]? with
      | none => -1
      | some o => ((o.power * (100 - s.wear.battery.derate) / 100 : Nat) : Int)]

/-- The items of the Genset Sequencer, the Auxiliary Output Unit and the Blend Unit: 0x200 to 0x37F. -/
structure State.unitsShown (s : State) : Prop where
  genset : let g := s.gs
    s.shows 0x200 [match g.state with
      | .unknown => 0 | .stopped => 1 | .cranking => 2 | .resting => 3 | .warming => 4 | .online => 5 | .cooldown => 6
      | .lockedOut => 7,
    g.attempts, flagItem g.wantedCopy, match g.wantCause with | none => -1 | some .demand => 0 | some .charge => 1,
    g.heldKw, orAbsent g.heldIndex,
    match g.startCause with | .none => 0 | .demand => 1 | .charge => 2 | .service => 3,
    match g.stopCause with
    | .none => 0 | .idleOff => 1 | .quietZone => 2 | .keyOff => 3 | .fault => 4 | .noStart => 5 | .portLost => 6,
    orAbsent g.lockoutCode,
    flagItem g.activity.tractionRise + 2 * flagItem g.activity.brakeRelease + 4 * flagItem g.activity.socLow +
      8 * flagItem g.activity.service,
    timeLeft g.crank, timeLeft g.rest, timeLeft g.warm, timeLeft g.idleOff, timeLeft g.cooldown]
  aux : s.shows 0x280 [match s.aux.mode with | .electric => 0 | .hybrid => 1 | .charge => 2 | .safe => 3,
    match s.aux.lines with | .highZ => 0 | .driven _ => 1,
    match s.aux.lines with | .highZ => 0 | .driven _ => ((s.settings.vectors.get s.aux.mode).toNat : Int),
    s.aux.allowances.electric, s.aux.allowances.hybrid, s.aux.allowances.charge, s.aux.allowances.safe]
  blend : let b := s.blend
    let r := b.result
    s.shows 0x300 ([(r.pDem : Int), r.rMotor, r.rStorage, r.rAdhesion, r.target, r.applied, r.dRegen, r.dFriction, r.friction,
        r.axle1, r.axle2, r.axle3, r.wheels.l1, r.wheels.r1, r.wheels.l2, r.wheels.r2, r.wheels.l3, r.wheels.r3,
        match b.step with | .none => 0 | .up => 1 | .upDoubled => 2 | .down => 3 | .downDoubled => 4 | .held => 5,
        flagItem b.clipped,
        flagItem b.forced.noContract + 2 * flagItem b.forced.brakePort + 4 * flagItem b.forced.abs3 +
          8 * flagItem b.forced.keyOff] ++
      (match b.regenCopy with | none => [0, -1, -1] | some (x, d) => [1, (x : Int), (d : Int)]) ++
      (match b.frictionCopy with
        | none => [0, -1, -1, -1, -1, -1]
        | some c => [1, (c.dFriction : Int), (c.friction : Int), (c.axle1 : Int), (c.axle2 : Int), (c.axle3 : Int)]) ++
      [flagItem b.fade, timeLeft b.timer])

/-- The Wear Unit's items: 0x380 to 0x43F. -/
structure State.wearShown (s : State) : Prop where
  wheels : ∀ w : Wheel, let e := s.wear.wheels.get w
    s.shows (0x380 + w.index) [e.theta] ∧ s.shows (0x388 + w.index) [((e.theta / 16 : Nat) : Int)] ∧
      s.shows (0x390 + w.index) [e.heat] ∧ s.shows (0x398 + w.index) [e.account] ∧ s.shows (0x3A0 + w.index) [e.residue] ∧
      s.shows (0x3A8 + w.index) [e.life] ∧ s.shows (0x3B0 + w.index) [s.settings.heatCapacity.get w] ∧
      s.shows (0x3B8 + w.index) [e.grade] ∧ s.shows (0x3C0 + w.index) [flagItem e.fade]
  level : s.shows 0x3C8 [flagItem s.wear.anyFade, timeLeft s.wear.cooling]
  battery : let b := s.wear.battery
    s.shows 0x400 [b.account, b.residue, b.life, b.grade, b.derate]
  engine : let e := s.wear.engine
    s.shows 0x405 [e.account, e.life, e.grade, e.penalty]

/-- The items of the Warning Unit, the partner ports and the store: 0x440 to 0x4FF and 0x600 to 0x60F. -/
structure State.statusShown (s : State) : Prop where
  entries : ∀ i : Nat, i < 23 → s.shows (0x440 + 4 * i)
    [((i + 1 : Nat) : Int), if i < 12 then 0 else if i < 17 then 1 else if i < 21 then 2 else 3,
      flagItem (s.warn.levels.getLsbD i), flagItem (s.warn.latched.getLsbD i)]
  summaries : s.shows 0x4A0 [flagItem s.warn.summaries.wheel, flagItem s.warn.summaries.powertrain,
    flagItem s.warn.summaries.link, flagItem s.warn.summaries.store, flagItem s.warn.serviceLow]
  ports : ∀ p : Port, let pp := s.port p
    s.shows (0x4C0 + 16 * p.index)
      [match pp.state with | .down => 0 | .up => 1 | .lost => 2, pp.crcTally, pp.lengthTally, pp.kindTally, flagItem pp.overrun,
        timeLeft pp.silence, match pp.slot, pp.queue with | .reply _, _ => 1 | _, _ :: _ => 1 | _, [] => 0, pp.queue.length]
  store : s.shows 0x600 [flagItem s.quiet,
    match s.store.phase with | .idle => 0 | .writingSettings _ => 1 | .writingWear _ => 1 | .failed => 2,
    flagItem s.store.settingsBad, flagItem s.store.wearBad, flagItem s.store.pendingSave, timeLeft s.store.saveTimer]

/-- The settings' items: 0x500 to 0x5FF. -/
structure State.settingsShown (s : State) : Prop where
  plain : let x := s.settings
    s.shows 0x500 [x.activityRise, x.hysteresis, x.chargeStart, x.chargeStop, x.criticalMark] ∧
      s.shows 0x508 [x.chargeTarget, x.regenCap, x.window] ∧
      s.shows 0x510 [x.crank, x.warm, x.cooldown, x.quietCooldown, x.warmTemp, x.idleOffCode, flagItem x.maskTractionRise,
        flagItem x.maskBrakeRelease, flagItem x.maskSocLow, flagItem x.maskService] ∧
      s.shows 0x540 [x.blendPeriod, x.vLo, x.vHi, x.eta, x.driveShare, x.hotShare, x.upSlope, x.downSlope, x.catchUp] ∧
      s.shows 0x550 [x.ambient, x.restartMargin, x.warmThreshold, x.hotThreshold, x.fadeThreshold] ∧
      s.shows 0x558 [x.highRate, x.packHot] ∧
      s.shows 0x5A0 [x.padWarn, x.batteryWarn, x.engineWarn, flagItem x.globalMask] ∧
      s.shows 0x5B0 [x.silenceWindow] ∧ s.shows 0x5B8 [x.address]
  vectors : let v := s.settings.vectors
    s.shows 0x520 [v.electric.toNat, v.hybrid.toNat, v.charge.toNat, v.safe.toNat]
  lines : ∀ i : Nat, i < 8 →
    s.shows (0x528 + i) [s.settings.draws.getD i 0] ∧ s.shows (0x530 + i) [flagItem (s.settings.polarity.getLsbD i)]
  warnings : ∀ i : Nat, i < 23 →
    s.shows (0x560 + i) [match s.settings.edges.getD i .rise with | .rise => 0 | .fall => 1 | .both => 2] ∧
      s.shows (0x580 + i) [(s.settings.masks.getD i 0#5).toNat]

/-- Every item of the map reads as R161 says. -/
structure State.itemsShown (s : State) : Prop where
  view : s.viewShown
  contract : s.contractShown
  units : s.unitsShown
  wear : s.wearShown
  status : s.statusShown
  settings : s.settingsShown

/-- The range of an item that a plain WRITE_ITEM stores (the rules of its chapter; R161; the address log 19). -/
def plainRange (n : Nat) (lo hi : Int) : Prop :=
  (n = 0x500 ∧ lo = 5 ∧ hi = 100) ∨ (n = 0x501 ∧ lo = 0 ∧ hi = 50) ∨
    ((n = 0x508 ∨ n = 0x509 ∨ n = 0x548 ∨ n = 0x552 ∨ n = 0x553 ∨ n = 0x558) ∧ lo = 0 ∧ hi = 1023) ∨
    (n = 0x50A ∧ lo = 50 ∧ hi = 1000) ∨ (n = 0x510 ∧ lo = 2 ∧ hi = 15) ∨ (n = 0x511 ∧ lo = 10 ∧ hi = 600) ∨
    (n = 0x512 ∧ lo = 5 ∧ hi = 300) ∨ (n = 0x513 ∧ lo = 1 ∧ hi = 30) ∨ (n = 0x514 ∧ lo = 0 ∧ hi = 120) ∨
    (n = 0x515 ∧ lo = 0 ∧ hi = 15) ∨ (0x516 ≤ n ∧ n ≤ 0x519 ∧ lo = 0 ∧ hi = 1) ∨
    ((n = 0x541 ∨ n = 0x542) ∧ lo = 0 ∧ hi = 300) ∨ (n = 0x543 ∧ lo = 70 ∧ hi = 100) ∨
    ((n = 0x544 ∨ n = 0x545) ∧ lo = 0 ∧ hi = 100) ∨ ((n = 0x546 ∨ n = 0x547) ∧ lo = 1 ∧ hi = 255) ∨
    ((n = 0x550 ∨ n = 0x559) ∧ lo = -40 ∧ hi = 200) ∨ (n = 0x551 ∧ lo = 0 ∧ hi = 200) ∨
    (0x560 ≤ n ∧ n ≤ 0x576 ∧ lo = 0 ∧ hi = 2) ∨ (n = 0x5B8 ∧ lo = 0 ∧ hi = 127)

end Sys2Proof.Machine
end

