-- ==== Sys2Proof/Certificates/Slice0/Obligations.lean ====
section
/-! DEFINITION. The statements for the provers. -/

open Sys2Proof Sys2Proof.Machine

/-! ### The machine -/

/-- Step takes the command at the front of the queue: it is `exec` of that command on the state with the queue's rest. -/
def Obligations.StepRunsTheCommandAtTheFront : Prop :=
  ∀ (c : Instr) (rest : List Instr) (s : State), s.pending = c :: rest → step s = exec c { s with pending := rest }

/-- With no command waiting a step is the model's choice (log 1, 2, 27): the oldest raised signal as a command; else the first of the
requests held and the expiries due, in that order; else one millisecond, by which the count and every running timer with time left
move by one and nothing else changes. What is held and what is due is said member by member. (Model's choices: log 1, 2, 27.) -/
def Obligations.IdleStepTakesASignalOrAMillisecond : Prop :=
  ∀ s : State, s.pending = [] →
    (∀ c rest, s.signals = c :: rest → step s = exec c s) ∧
    (s.signals = [] → ∀ c rest, s.heldRequests ++ s.dueExpiries = c :: rest → step s = exec c s) ∧
    (∀ c, c ∈ s.heldRequests ↔ (∃ p, (s.port p).slot = .reserved c) ∨ s.svc.inProcess = some c) ∧
    (∀ c, c ∈ s.dueExpiries ↔
      (∃ p, c = .silenceTimerExpiry p ∧ (s.port p).state = .up ∧ (s.port p).silence = .running 0) ∨
      (c = .acceptanceWindowExpiry ∧ s.cu.window = .running 0) ∨ (c = .roundRestExpiry ∧ s.cu.rest = .running 0) ∨
      (c = .peakExpiry ∧ s.cu.peak = .running 0) ∨ (c = .crankTimerExpiry ∧ s.gs.crank = .running 0) ∨
      (c = .restTimerExpiry ∧ s.gs.rest = .running 0) ∨ (c = .warmTimerExpiry ∧ s.gs.warm = .running 0) ∨
      (c = .idleOffExpiry ∧ s.gs.idleOff = .running 0) ∨ (c = .cooldownTimerExpiry ∧ s.gs.cooldown = .running 0) ∨
      (c = .blendTimerExpiry ∧ s.blend.timer = .running 0) ∨ (c = .coolingTimerExpiry ∧ s.wear.cooling = .running 0) ∨
      (c = .wearSaveTimerExpiry ∧ s.store.saveTimer = .running 0) ∨
      (c = .serviceReadHoldTimeout ∧ s.svc.hold ≠ none ∧ s.svc.holdTimer = .running 0)) ∧
    (s.signals = [] → s.heldRequests = [] → s.dueExpiries = [] →
      ∃ t, step s = .next t ∧ t.ms = (s.ms + 1) % 4294967296 ∧
        s.cu.window.moved t.cu.window ∧ s.cu.rest.moved t.cu.rest ∧ s.cu.peak.moved t.cu.peak ∧
        s.gs.crank.moved t.gs.crank ∧ s.gs.rest.moved t.gs.rest ∧ s.gs.warm.moved t.gs.warm ∧
        s.gs.idleOff.moved t.gs.idleOff ∧ s.gs.cooldown.moved t.gs.cooldown ∧ s.blend.timer.moved t.blend.timer ∧
        s.wear.cooling.moved t.wear.cooling ∧ s.store.saveTimer.moved t.store.saveTimer ∧
        s.svc.holdTimer.moved t.svc.holdTimer ∧
        (∀ p, (s.port p).silence.moved (t.port p).silence ∧ t.port p = { s.port p with silence := (t.port p).silence }) ∧
        t = { s with
          ms := t.ms, ports := t.ports
          cu := { s.cu with window := t.cu.window, rest := t.cu.rest, peak := t.cu.peak }
          gs := { s.gs with
            crank := t.gs.crank, rest := t.gs.rest, warm := t.gs.warm, idleOff := t.gs.idleOff, cooldown := t.gs.cooldown }
          blend := { s.blend with timer := t.blend.timer }
          wear := { s.wear with cooling := t.wear.cooling }
          store := { s.store with saveTimer := t.store.saveTimer }
          svc := { s.svc with holdTimer := t.svc.holdTimer } })

/-- The frame of every command: it answers a next state that differs only in the parts its row reaches, and it leaves the queue
of commands as it was. (Model's choice: log 32.) -/
def Obligations.EveryCommandKeepsToItsUnits : Prop :=
  ∀ (c : Instr) (s : State), ∃ t, exec c s = .next t ∧ Within (footprint c) s t ∧ t.pending = s.pending

/-! ### The Partner View (chapter 1) -/

/-- R2 to R5: each report is taken on its own port only, stored with every field within its range, and answered DONE, with CLAMPED
when what is stored is not what was sent. (Model's choice: log 5.) -/
def Obligations.ReportsAreStoredWithinTheirRanges : Prop :=
  (∀ (r : TractionReport) (s : State), ∃ t x, exec (.tractionReport r) s = .next t ∧
    t.view = { s.view with traction := some ⟨x, s.ms, false⟩ } ∧
    x.v = min r.v 300 ∧ x.pReq = min r.pReq 1023 ∧ x.pMin = min (min r.pMin 1023) x.pReq ∧ x.giveBack = r.giveBack ∧
    x.rMot = min r.rMot 1023 ∧ x.motorTemp = max (-40) (min 200 r.motorTemp) ∧
    s.answered t .traction (.tractionReport r) (.answer 0x10 .done (decide (x ≠ r)) [])) ∧
  (∀ (r : PackReport) (s : State), ∃ t x, exec (.packReport r) s = .next t ∧
    t.view = { s.view with pack := some ⟨x, s.ms, false⟩ } ∧
    x.soc = min r.soc 1000 ∧ x.temp = max (-40) (min 200 r.temp) ∧ x.pPack = max (-1023) (min 1023 r.pPack) ∧
    x.aAcc = min r.aAcc 1023 ∧
    s.answered t .pack (.packReport r) (.answer 0x11 .done (decide (x ≠ r)) [])) ∧
  (∀ (r : RawGensetReport) (s : State), ∃ t x, exec (.gensetReport r) s = .next t ∧
    t.view = { s.view with genset := some ⟨x, s.ms, false⟩ } ∧
    x.condition =
      (if r.condition = 0 then .stopped else if r.condition = 1 then .cranking else if r.condition = 2 then .running
        else .fault) ∧
    x.coolant = max (-40) (min 200 r.coolant) ∧
    x.fault = (if r.condition = 3 then some r.fault else if r.condition < 3 then none else some 0) ∧
    s.answered t .genset (.gensetReport r)
      (.answer 0x12 .done (decide (3 < r.condition ∨ x.coolant ≠ r.coolant)) [])) ∧
  (∀ (r : BrakeDemand) (s : State), ∃ t x, exec (.brakeDemand r) s = .next t ∧
    t.view = { s.view with brake := some ⟨x, s.ms, false⟩ } ∧
    x.d = min r.d 600 ∧ x.m = max 80 (min 400 r.m) ∧ x.load1 = min r.load1 150 ∧ x.load2 = min r.load2 150 ∧
    x.load3 = min r.load3 150 ∧ x.abs1 = r.abs1 ∧ x.abs2 = r.abs2 ∧ x.abs3 = r.abs3 ∧ x.parking = r.parking ∧
    s.answered t .brake (.brakeDemand r) (.answer 0x13 .done (decide (x ≠ r)) [])) ∧
  (∀ (p : Port) (payload : List Byte),
    (p ≠ .traction → partnerLength p 0x10 payload = none) ∧ (p ≠ .pack → partnerLength p 0x11 payload = none) ∧
    (p ≠ .genset → partnerLength p 0x12 payload = none) ∧ (p ≠ .brake → partnerLength p 0x13 payload = none))

/-- The signals of section 1-6, each comparison made against the report replaced: BASIS and GIVE_BACK, TRACTION_RISE,
ACCEPTANCE and CHARGE_MARK, CRITICAL_MARK, the battery hand-off and its interval, the genset report, BRAKE_RELEASE, ABS3_SET. (Model's choice: log 1.) -/
def Obligations.ReportsRaiseTheirSignals : Prop :=
  (∀ (r : TractionReport) (s : State), ∃ t x cs rise,
    exec (.tractionReport r) s = .next t ∧ t.view.traction = some ⟨x, s.ms, false⟩ ∧
    t.signals = s.signals ++ .arrivalNotice .traction cs :: (if rise then [.activitySignal .tractionRise] else []) ∧
    cs.acceptance = false ∧ cs.chargeMark = false ∧ cs.offers = false ∧
    (cs.basis = true ↔ s.view.reference = none ∨ ∃ req low, s.view.reference = some (req, low) ∧
      ((s.settings.hysteresis ≤ x.pReq - req ∧ 1 ≤ x.pReq - req) ∨ (s.settings.hysteresis ≤ req - x.pReq ∧ 1 ≤ req - x.pReq) ∨
        (s.settings.hysteresis ≤ x.pMin - low ∧ 1 ≤ x.pMin - low) ∨ (s.settings.hysteresis ≤ low - x.pMin ∧ 1 ≤ low - x.pMin))) ∧
    (cs.giveBack = true ↔ ¬ ∃ old, heldFresh s.view.traction old ∧ old.giveBack = x.giveBack) ∧
    (rise = true ↔ ∃ old, heldFresh s.view.traction old ∧ old.pReq + s.settings.activityRise ≤ x.pReq) ∧
    Within [.view, .ports, .signals] s t) ∧
  (∀ (r : PackReport) (s : State), ∃ t x cs critical dt,
    exec (.packReport r) s = .next t ∧ t.view.pack = some ⟨x, s.ms, false⟩ ∧
    t.signals = s.signals ++ .arrivalNotice .pack cs :: (if critical then [.criticalMarkSignal] else []) ++
      [.packHandOff x.pPack x.temp dt] ∧
    cs.basis = false ∧ cs.giveBack = false ∧ cs.offers = false ∧
    (cs.acceptance = true ↔ ¬ ∃ old, heldFresh s.view.pack old ∧ old.aAcc = x.aAcc) ∧
    (cs.chargeMark = true ↔ ¬ ∃ old, heldFresh s.view.pack old ∧
      (old.soc < s.settings.chargeStart ↔ x.soc < s.settings.chargeStart) ∧
      (old.soc < s.settings.chargeStop ↔ x.soc < s.settings.chargeStop)) ∧
    (critical = true ↔ ¬ ∃ old, heldFresh s.view.pack old ∧
      (old.soc < s.settings.criticalMark ↔ x.soc < s.settings.criticalMark)) ∧
    (∀ old n, s.view.pack = some ⟨old, n, false⟩ → n ≤ s.ms → s.ms < 4294967296 → dt = min 500 (s.ms - n)) ∧
    ((¬ ∃ old, heldFresh s.view.pack old) → dt = 0) ∧
    Within [.view, .ports, .signals] s t) ∧
  (∀ (r : RawGensetReport) (s : State), ∃ t x,
    exec (.gensetReport r) s = .next t ∧ t.view.genset = some ⟨x, s.ms, false⟩ ∧
    t.signals = s.signals ++ [.gensetReportSignal x.condition x.coolant x.fault] ∧
    Within [.view, .ports, .signals] s t) ∧
  (∀ (r : BrakeDemand) (s : State), ∃ t x release abs3,
    exec (.brakeDemand r) s = .next t ∧ t.view.brake = some ⟨x, s.ms, false⟩ ∧
    t.signals = s.signals ++ (if release then [.activitySignal .brakeRelease] else []) ++
      (if abs3 then [.blendImmediateRun] else []) ∧
    (release = true ↔ x.d = 0 ∧ ∃ old, heldFresh s.view.brake old ∧ old.d ≠ 0) ∧
    (abs3 = true ↔ x.abs3 = true ∧ ¬ ∃ old, heldFresh s.view.brake old ∧ old.abs3 = true) ∧
    Within [.view, .ports, .signals] s t)

/-- R6 and R7: a list of 1 to 6 entries replaces the list held from its port, each entry in its place, within its ranges and
unmarked, and OFFERS is signalled; any other list is refused BAD_COUNT and changes nothing but the reply. (Model's choices: log 1, 5.) -/
def Obligations.OfferListReplacesTheListHeld : Prop :=
  ∀ (sup : Supplier) (es : List RawOffer) (s : State), ∃ t, exec (.offerList sup es) s = .next t ∧
    Within [.view, .ports, .signals] s t ∧
    (es.length = 0 ∨ 6 < es.length →
      t.view = s.view ∧ t.signals = s.signals ∧
      s.answered t sup.port (.offerList sup es) (.answer 0x14 (.refused .badCount) false [])) ∧
    (1 ≤ es.length → es.length ≤ 6 →
      ∃ (os : List Offer) (clamped : Bool), os.length = es.length ∧
        (match sup with
          | .pack => t.view = { s.view with storage := some ⟨os, s.ms, false⟩, storageSerial := s.view.storageSerial + 1 }
          | .genset =>
            t.view = { s.view with gensetList := some ⟨os, s.ms, false⟩, gensetSerial := s.view.gensetSerial + 1 }) ∧
        (∀ (i : Nat) (e : RawOffer) (o : Offer), es[i]? = some e → os[i]? = some o →
          o.power = min e.power 1023 ∧ o.cost = min e.cost 15 ∧ o.quiet = e.quiet ∧ o.excluded = false ∧ o.expired = false ∧
          o.duration = (if e.peak = true ∧ sup = .pack then some (max 1 (min 600 e.duration)) else none)) ∧
        (clamped = true ↔ ∃ e ∈ es, 1023 < e.power ∨ 15 < e.cost ∨
          (e.peak = true ∧ (sup = .genset ∨ e.duration = 0 ∨ 600 < e.duration))) ∧
        s.answered t sup.port (.offerList sup es) (.answer 0x14 .done clamped []) ∧
        t.signals = s.signals ++
          [.arrivalNotice (match sup with | .pack => .storageList | .genset => .gensetList) ⟨false, false, false, false, true⟩])

/-- R9, R10 and R17 at a change of a port's state: LOST makes the report place of the port HELD and keeps everything else, DOWN
makes the port's places absent, and with the Traction port the reference; UP changes nothing in the View. (Model's choices: log 3, 21.) -/
def Obligations.PortStateMovesThePlaces : Prop :=
  ∀ (p : Port) (now : PortState) (s : State), ∃ t, exec (.portStateView p now) s = .next t ∧
    Within [.view, .signals] s t ∧ t.signals = s.signals.erase (.portStateView p now) ∧
    (now = .up → t.view = s.view) ∧
    (now = .lost → t.view = match p with
      | .traction => { s.view with traction := s.view.traction.map fun x => { x with held := true } }
      | .pack => { s.view with pack := s.view.pack.map fun x => { x with held := true } }
      | .genset => { s.view with genset := s.view.genset.map fun x => { x with held := true } }
      | .brake => { s.view with brake := s.view.brake.map fun x => { x with held := true } }) ∧
    (now = .down → t.view = match p with
      | .traction => { s.view with traction := none, reference := none }
      | .pack => { s.view with pack := none, storage := none }
      | .genset => { s.view with genset := none, gensetList := none }
      | .brake => { s.view with brake := none })

/-! ### Offer selection (chapter 2) -/

/-- R26 and R27: the candidates of a run are those of the usable storage offers alone and paired with the usable genset offers,
at their offer indices; the mode, allowance, share, commitment, charge allowance, cost and covering of each are R27's. -/
def Obligations.CandidatesAndTheirFigures : Prop :=
  ∀ (x : Inputs) (online : Bool) (c : Candidate),
    let target := if x.need then min x.target x.acceptance else 0
    (c ∈ x.candidates online ↔
      ∃ i o, x.storage[i]? = some o ∧ o.excluded = false ∧ o.expired = false ∧ (x.quiet = true → o.quiet = true) ∧
        c.storageIndex = i + 1 ∧ c.eff = o.power * (100 - x.derate) / 100 ∧ c.duration = o.duration ∧
        ((c.gensetIndex = none ∧ c.gPower = 0 ∧ c.mode = .electric ∧ c.aux = x.aux.electric ∧
            c.share = x.req + c.aux ∧ c.commitment = 0 ∧ c.charge = 0 ∧ (c.covered = true ↔ c.share ≤ c.eff) ∧
            c.cost = (if 0 < c.share then o.cost else 0)) ∨
          ∃ j g, online = true ∧ x.genset[j]? = some g ∧ g.excluded = false ∧ (x.quiet = true → g.quiet = true) ∧
            c.gensetIndex = some (j + 1) ∧ c.gPower = g.power ∧
            c.mode = (if 0 < x.req then .hybrid else .charge) ∧
            c.aux = (if 0 < x.req then x.aux.hybrid else x.aux.charge) ∧
            c.cost = min 15 (g.cost + x.penalty) + (if 0 < c.share then o.cost else 0) ∧ c.commitment ≠ 0 ∧
            ((x.req + c.aux ≤ g.power ∧ c.share = 0 ∧ c.charge = min target (g.power - (x.req + c.aux)) ∧
                c.commitment = x.req + c.aux + c.charge ∧ c.covered = true) ∨
              (g.power < x.req + c.aux ∧ c.share = x.req + c.aux - g.power ∧ c.charge = 0 ∧ c.commitment = g.power ∧
                (c.covered = true ↔ c.share ≤ c.eff)))))

/-- R28 and R29: when a run covers a candidate, one covered candidate comes before every other in the order of the six keys, and
the terms formed are that candidate's. -/
def Obligations.WinnerIsFirstOfTheCovered : Prop :=
  ∀ (x : Inputs) (online : Bool), (∃ c ∈ x.candidates online, c.covered = true) →
    ∃ w ∈ x.candidates online, w.covered = true ∧
      (∀ c ∈ x.candidates online, c.covered = true → c ≠ w → w.precedes x.need c ∧ ¬ c.precedes x.need w) ∧
      ∃ t, (x.pass online).result = .ok t ∧
        t.basisReq = x.req ∧ t.basisMin = x.minimum ∧ t.grant = x.req ∧ t.storageIndex = w.storageIndex ∧ t.share = w.share ∧
        t.gensetIndex = w.gensetIndex ∧ t.commitment = w.commitment ∧ t.aux = w.aux ∧ t.charge = w.charge ∧
        t.ceiling = min x.acceptance x.cap - w.charge ∧ t.mode = w.mode ∧ t.mismatch = none ∧ t.reduced = false ∧
        t.peak = w.duration

/-- R31: when candidates are formed and none is covered, the terms are those of the candidate of greatest eff(s) + G among those
that carry their own aux allowance, in mismatch. -/
def Obligations.ShortSupplyFormsMismatchTerms : Prop :=
  ∀ (x : Inputs) (online : Bool), (∀ c ∈ x.candidates online, c.covered = false) →
    (∃ c ∈ x.candidates online, c.aux ≤ c.eff + c.gPower) →
    ∃ w ∈ x.candidates online, w.aux ≤ w.eff + w.gPower ∧
      (∀ c ∈ x.candidates online, c.aux ≤ c.eff + c.gPower → c ≠ w →
        c.eff + c.gPower < w.eff + w.gPower ∨ (c.eff + c.gPower = w.eff + w.gPower ∧ w.precedes x.need c)) ∧
      ∃ t, (x.pass online).result = .ok t ∧
        t.grant = min x.req (w.eff + w.gPower - w.aux) ∧
        (w.gensetIndex = none → t.share = t.grant + w.aux ∧ t.commitment = 0) ∧
        (w.gensetIndex ≠ none → t.grant + w.aux ≤ w.gPower → t.share = 0 ∧ t.commitment = t.grant + w.aux) ∧
        (w.gensetIndex ≠ none → w.gPower < t.grant + w.aux → t.share = t.grant + w.aux - w.gPower ∧ t.commitment = w.gPower) ∧
        t.charge = 0 ∧ t.mismatch = some (if t.grant < x.minimum then .belowMinimum else .shortSupply) ∧
        t.basisReq = x.req ∧ t.basisMin = x.minimum ∧ t.storageIndex = w.storageIndex ∧ t.gensetIndex = w.gensetIndex ∧
        t.aux = w.aux ∧ t.ceiling = min x.acceptance x.cap ∧ t.mode = w.mode ∧ t.reduced = false ∧ t.peak = w.duration

/-- R32: a run forms no terms exactly when it forms no candidate (NO_STORAGE_OFFER), or when it forms some, none is covered and
none carries its own aux allowance (SUPPLY_BELOW_AUX). -/
def Obligations.NoTermsInTwoCases : Prop :=
  ∀ (x : Inputs) (online : Bool),
    (x.candidates online = [] ↔ ∀ o ∈ x.storage, o.excluded = true ∨ o.expired = true ∨ (x.quiet = true ∧ o.quiet = false)) ∧
    ((x.pass online).result = .error .noStorageOffer ↔ x.candidates online = []) ∧
    ((x.pass online).result = .error .supplyBelowAux ↔
      x.candidates online ≠ [] ∧
        ∀ c ∈ x.candidates online, c.covered = false ∧ c.eff + c.gPower < c.aux) ∧
    (∀ r, (x.pass online).result = .error r → r = .noStorageOffer ∨ r = .supplyBelowAux)

/-! ### Power, key and reset -/

/-- Power-on and the RESET input, before the end of the load: what every block then holds (1-7, 2-8, 3-2, 4-2, 5-2, 6-2, 7-8, 9-3, 10-6,
11-2, 11-5; of the Wear Unit, whose records come with the load, the cooling timer stopped), and that a region being written when the supply was lost does not agree with its check word. (Model's choices: log 7, 8.) -/
def Obligations.PowerOnStateOfEveryBlock : Prop :=
  ∀ (cause : ResetCause) (s : State), ∃ t, exec (.powerOnReset cause) s = .next t ∧
    t.loaded = false ∧ t.quiet = false ∧
    (∀ p, (t.port p).state = .down ∧ (t.port p).silence = .stopped ∧ (t.port p).slot = .empty ∧ (t.port p).queue = [] ∧
      (t.port p).crcTally = 0 ∧ (t.port p).lengthTally = 0 ∧ (t.port p).kindTally = 0 ∧ (t.port p).overrun = false ∧
      (t.port p).attentionLow = false) ∧
    t.view.traction = none ∧ t.view.pack = none ∧ t.view.genset = none ∧ t.view.brake = none ∧ t.view.storage = none ∧
    t.view.gensetList = none ∧ t.view.reference = none ∧
    t.cu.gate = .blocked ∧ t.cu.active = none ∧ t.cu.proposal = none ∧ t.cu.counter = 0 ∧ t.cu.round = .idle ∧
    t.cu.settled = false ∧ t.cu.window = .stopped ∧ t.cu.rest = .stopped ∧ t.cu.peak = .stopped ∧ t.cu.chargeNeed = false ∧
    t.cu.gensetWanted = false ∧ t.cu.lastSelection = ⟨.notRun, none, none, none, 0, 0⟩ ∧ t.cu.lastDecline = none ∧
    t.cu.lastDrop = none ∧
    t.gs.state = .unknown ∧ t.gs.attempts = 0 ∧ t.gs.wantedCopy = false ∧ t.gs.wantCause = none ∧ t.gs.heldKw = 0 ∧
    t.gs.heldIndex = none ∧ t.gs.startCause = .none ∧ t.gs.stopCause = .none ∧ t.gs.lockoutCode = none ∧
    t.gs.activity = ⟨false, false, false, false⟩ ∧ t.gs.crank = .stopped ∧ t.gs.rest = .stopped ∧ t.gs.warm = .stopped ∧
    t.gs.idleOff = .stopped ∧ t.gs.cooldown = .stopped ∧
    t.aux.mode = .safe ∧ t.aux.lines = .highZ ∧
    t.blend.result = ⟨0, 0, 0, 0, 0, 0, 0, 0, 0, 0, 0, 0, ⟨0, 0, 0, 0, 0, 0⟩⟩ ∧ t.blend.step = .none ∧ t.blend.clipped = false ∧
    t.blend.forced = ⟨false, false, false, false⟩ ∧ t.blend.regenCopy = none ∧ t.blend.frictionCopy = none ∧
    t.blend.fade = false ∧ t.blend.timer = .stopped ∧
    t.wear.cooling = .stopped ∧
    t.warn.levels = 0#24 ∧ t.warn.latched = 0#24 ∧ t.warn.serviceLow = false ∧
    t.warn.summaries = ⟨false, false, false, false⟩ ∧
    t.svc.inProcess = none ∧ t.svc.reply = none ∧ t.svc.hold = none ∧ t.svc.holdTimer = .stopped ∧
    t.store.phase = .idle ∧ t.store.saveTimer = .stopped ∧ t.store.pendingSave = false ∧
    ((∀ x, s.store.phase ≠ .writingSettings x) → t.store.settingsImage = s.store.settingsImage) ∧
    ((∀ x, s.store.phase ≠ .writingWear x) → t.store.wearImage = s.store.wearImage) ∧
    (∀ x, cause = .powerOn → s.store.phase = .writingSettings x → settingsImageGood t.store.settingsImage = false) ∧
    (∀ x, cause = .powerOn → s.store.phase = .writingWear x → wearImageGood t.store.wearImage = false)

/-- State.reset, the state after power-on, has every invariant of the part. (Model's choice: log 6.) -/
def Obligations.ResetStateIsLawful : Prop := State.reset.lawful

/-- The end of the power-on load as the blocks take it (5-5, 6-3, 7-2, 8-6, 9-3, 11-6): settings and wear records from a good image,
each clamped, or defaults and zeros from a bad one; the marks, the figures of the records, the allowances and lines, the timers, the
first evaluation with its latches, summaries and line; then, with the key on, what key-on does: the save timer, the test of the gate
and an evaluation of start need. (Model's choices: log 14, 19, 33, 34.) -/
def Obligations.LoadEndSetsEveryBlock : Prop :=
  ∀ s : State, s.loaded = false → ∃ t u, exec .settingsLoadEnd s = .next t ∧ u.loaded = true ∧
    Within [.loaded, .settings, .aux, .blend, .wear, .warn, .svc, .store, .ports, .signals] s u ∧
    (settingsImageGood s.store.settingsImage = true → u.settings.clampedFrom s.store.settingsImage.contents) ∧
    (settingsImageGood s.store.settingsImage = false → u.settings.atDefaults) ∧
    u.store = { s.store with
      settingsBad := !settingsImageGood s.store.settingsImage, wearBad := !wearImageGood s.store.wearImage } ∧
    (∃ levels, u.aux.lines = .driven levels) ∧ u.driven ∧ u.allowed ∧ u.aux.mode = s.aux.mode ∧
    u.blend = { s.blend with timer := .running u.settings.blendPeriod, lastRun := s.ms } ∧ u.wear.cooling = .running 1000 ∧
    u.svc = { s.svc with address := u.settings.address } ∧ u.signals = s.signals ++ [.fadeCopyUpdate u.wear.anyFade] ∧
    (∀ w, (u.wear.wheels.get w).theta = (16 * (u.settings.ambient + u.settings.restartMargin)).toNat ∧
      (u.wear.wheels.get w).heat = 0 ∧ (u.wear.wheels.get w).graded ∧ (u.wear.wheels.get w).flagged u.settings ∧
      (wearImageGood s.store.wearImage = false →
        (u.wear.wheels.get w).account = 0 ∧ (u.wear.wheels.get w).residue = 0 ∧ (u.wear.wheels.get w).life = 20000) ∧
      (wearImageGood s.store.wearImage = true →
        (u.wear.wheels.get w).account = min 4294967295 (s.store.wearImage.contents.padAccount.get w) ∧
        (u.wear.wheels.get w).residue = min 999 (s.store.wearImage.contents.padResidue.get w) ∧
        (u.wear.wheels.get w).life = max 1 (min 65535 (s.store.wearImage.contents.padLife.get w)))) ∧
    (u.wear.anyFade = true ↔ ∃ w, (u.wear.wheels.get w).fade = true) ∧ u.wear.battery.figured ∧ u.wear.engine.figured ∧
    (wearImageGood s.store.wearImage = false →
      u.wear.battery.account = 0 ∧ u.wear.battery.residue = 0 ∧ u.wear.battery.life = 2000000 ∧
      u.wear.engine.account = 0 ∧ u.wear.engine.life = 30000) ∧
    (wearImageGood s.store.wearImage = true →
      u.wear.battery.account = min 4294967295 s.store.wearImage.contents.batteryAccount ∧
      u.wear.battery.residue = min 999999 s.store.wearImage.contents.batteryResidue ∧
      u.wear.battery.life = max 1 (min 100000000 s.store.wearImage.contents.batteryLife) ∧
      u.wear.engine.account = min 65535 s.store.wearImage.contents.engineAccount ∧
      u.wear.engine.life = max 1 (min 65535 s.store.wearImage.contents.engineLife)) ∧
    (∀ l, u.stands l → (u.warn.levels.getLsbD (levelPlace l) = true ↔ levelHolds u.settings l)) ∧
    (∀ i : Nat, i < 23 → (u.warn.latched.getLsbD i = true ↔ s.warn.latched.getLsbD i = true ∨
      (u.warn.levels.getLsbD i ≠ s.warn.levels.getLsbD i ∧
        match u.settings.edges.getD i .rise with
        | .rise => u.warn.levels.getLsbD i = true
        | .fall => u.warn.levels.getLsbD i = false
        | .both => True))) ∧
    u.summarised ∧ (∀ p, (s.port p).state ≠ .up → u.port p = s.port p) ∧
    (s.key = false → t = u) ∧
    (s.key = true → ∃ m,
      State.gateTested { u with store := { u.store with saveTimer := .running 600000 } } m ∧ m.evaluated t)

/-- Key-on (3-2, 4-3, 4-9, 11-5, 11-6): the wear-save timer is started with 10 min; the gate, if BLOCKED, opens exactly when the
Traction and Pack ports are UP and a traction report, a pack report and a storage list are held; and the sequencer evaluates start
need. Before the load's end the level alone changes. (Model's choices: log 14, 33, 34.) -/
def Obligations.KeyOnTestsTheGate : Prop :=
  ∀ s : State, s.key = false → s.cu.restsUnlessOpen → ∃ t, exec .keyOn s = .next t ∧ t.key = true ∧
    (s.loaded = false → t = { s with key := true }) ∧
    (s.loaded = true →
      t.store = { s.store with saveTimer := .running 600000 } ∧
      (∃ m, State.gateTested { s with key := true, store := { s.store with saveTimer := .running 600000 } } m ∧ m.evaluated t) ∧
      (s.cu.gate = .blocked →
        (t.cu.gate = .opened ↔ (s.port .traction).state = .up ∧ (s.port .pack).state = .up ∧ s.view.traction ≠ none ∧
          s.view.pack ≠ none ∧ s.view.storage ≠ none) ∧
        (t.cu.gate ≠ .opened → t.cu = s.cu)))

/-- Key-off (3-7, 4-9, 6-3, 11-5): the gate is BLOCKED, from OPEN by a drop for KEY_OFF that is noticed on every port not DOWN;
the sequencer acts by its table; an immediate run of the Blend Unit and a wear save are called for, and the save timer stops. (Model's choices: log 1, 16.) -/
def Obligations.KeyOffAtEveryBlock : Prop :=
  ∀ s : State, s.key = true → s.loaded = true → s.cu.restsUnlessOpen → ∃ t, exec .keyOff s = .next t ∧ t.key = false ∧
    t.cu.gate = .blocked ∧ t.cu.active = none ∧ t.cu.proposal = none ∧ t.cu.gensetWanted = false ∧
    t.cu.counter = s.cu.counter ∧ t.cu.chargeNeed = s.cu.chargeNeed ∧ t.cu.lastDecline = s.cu.lastDecline ∧
    (s.cu.gate = .opened → t.cu.lastDrop = some ⟨.keyOff, s.cu.activeNumber⟩ ∧ t.view.reference = none ∧
      ∀ p, (s.port p).state ≠ .down → .contractDropped s.cu.activeNumber .keyOff ∈ (t.port p).queue) ∧
    (s.cu.gate ≠ .opened → t.cu = { s.cu with gate := .blocked } ∧ t.view = s.view) ∧
    (s.gs.state = .cranking → t.gs.state = .stopped ∧ t.gs.crank = .stopped ∧ t.gs.stopCause = .keyOff ∧
      ((s.port .genset).state = .up → .gensetCommand .stop none 0 ∈ (t.port .genset).queue)) ∧
    (s.gs.state = .warming ∨ s.gs.state = .online → t.gs.state = .cooldown ∧ t.gs.warm = .stopped ∧ t.gs.idleOff = .stopped ∧
      t.gs.stopCause = .keyOff ∧
      t.gs.cooldown = .running (1000 * (if s.quiet then s.settings.quietCooldown else s.settings.cooldown)) ∧
      ((s.port .genset).state = .up → .gensetCommand .cooldown none 0 ∈ (t.port .genset).queue) ∧
      (s.gs.state = .online → .gensetLeavesOnline ∈ t.signals)) ∧
    (s.gs.state ≠ .cranking → s.gs.state ≠ .warming → s.gs.state ≠ .online → t.gs = s.gs) ∧
    .blendImmediateRun ∈ t.signals ∧ t.store.saveTimer = .stopped ∧
    (s.store.phase = .idle ∨ s.store.phase = .failed →
      ∃ x : WearContents, x.takenFrom s.wear ∧ t.store.phase = .writingWear x) ∧
    (s.store.phase ≠ .idle → s.store.phase ≠ .failed → t.store.phase = s.store.phase ∧ t.store.pendingSave = true)

/-- DRIVELINE_RESET (3-7, 4-9, 5-7, 6-9, 10-6, 11-4): reply slots emptied, and queues, so that every notice a port then holds is one of
the reset's own; a drop with its reason, exclusion marks cleared, the sequencer's part, the mode and the lines at SAFE, both command
copies absent, and at its completion the test of the gate. (Model's choice: log 1.) -/
def Obligations.DrivelineResetAtEveryBlock : Prop :=
  ∀ s : State, s.cu.restsUnlessOpen → ∃ t, exec .drivelineReset s = .next t ∧
    s.repliesService t .drivelineReset (.answer 0x69 .done false []) ∧
    t.cu.active = none ∧ t.cu.lastDrop = some ⟨.drivelineReset, s.cu.activeNumber⟩ ∧ t.cu.lastDecline = s.cu.lastDecline ∧
    t.cu.chargeNeed = s.cu.chargeNeed ∧
    (t.cu.gate = .opened ↔ s.key = true ∧ (s.port .traction).state = .up ∧ (s.port .pack).state = .up ∧
      s.view.traction ≠ none ∧ s.view.pack ≠ none ∧ s.view.storage ≠ none) ∧
    (t.cu.gate ≠ .opened → t.cu.gate = .blocked ∧ t.cu.proposal = none ∧ t.cu.gensetWanted = false ∧
      t.cu.counter = s.cu.counter ∧ t.view.reference = none ∧
      ∀ p, (s.port p).state ≠ .down → .contractDropped s.cu.activeNumber .drivelineReset ∈ (t.port p).queue) ∧
    (∀ p n, n ∈ (t.port p).queue →
      (n = .contractDropped s.cu.activeNumber .drivelineReset ∧ (s.port p).state ≠ .down) ∨
      (∃ k u, n = .contractOffer k u ∧ t.cu.gate = .opened ∧
        ∃ q, t.cu.proposal = some q ∧ q.number = k ∧ q.terms = u ∧ q.required.tells p) ∨
      (p = .genset ∧ (s.port p).state = .up ∧
        ((n = .gensetCommand .stop none 0 ∧ s.gs.state = .cranking) ∨
          (n = .gensetCommand .cooldown none 0 ∧ (s.gs.state = .warming ∨ s.gs.state = .online))))) ∧
    t.aux.mode = .safe ∧ t.aux.allowances = s.aux.allowances ∧ (s.aux.mode = .safe → t.aux = s.aux) ∧
    (s.aux.mode ≠ .safe → s.redriven t) ∧ .modeDerivation ∈ t.signals ∧
    (∀ l, t.view.storage = some l ∨ t.view.gensetList = some l → ∀ o ∈ l.content, o.excluded = false) ∧
    t.view.traction = s.view.traction ∧ t.view.pack = s.view.pack ∧ t.view.genset = s.view.genset ∧
    t.view.brake = s.view.brake ∧
    t.gs.wantedCopy = false ∧ t.gs.stopCause = s.gs.stopCause ∧ t.gs.attempts = s.gs.attempts ∧
    t.gs.activity = s.gs.activity ∧ t.gs.lockoutCode = s.gs.lockoutCode ∧
    (s.gs.state = .cranking → t.gs.state = .stopped ∧ t.gs.crank = .stopped ∧
      ((s.port .genset).state = .up → .gensetCommand .stop none 0 ∈ (t.port .genset).queue)) ∧
    (s.gs.state = .warming ∨ s.gs.state = .online → t.gs.state = .cooldown ∧ t.gs.warm = .stopped ∧ t.gs.idleOff = .stopped ∧
      t.gs.cooldown = .running (1000 * (if s.quiet then s.settings.quietCooldown else s.settings.cooldown)) ∧
      ((s.port .genset).state = .up → .gensetCommand .cooldown none 0 ∈ (t.port .genset).queue)) ∧
    (s.gs.state ≠ .cranking → s.gs.state ≠ .warming → s.gs.state ≠ .online → t.gs = { s.gs with wantedCopy := false }) ∧
    t.blend = { s.blend with regenCopy := none, frictionCopy := none } ∧ .blendImmediateRun ∈ t.signals ∧
    (∀ p, (t.port p).state = (s.port p).state ∧ (t.port p).silence = (s.port p).silence ∧
      (t.port p).crcTally = (s.port p).crcTally ∧ (t.port p).lengthTally = (s.port p).lengthTally ∧
      (t.port p).kindTally = (s.port p).kindTally ∧ (t.port p).overrun = (s.port p).overrun ∧
      (∀ r, (t.port p).slot ≠ .reply r) ∧ (∀ i, (s.port p).slot = .reserved i → (t.port p).slot = .reserved i))

/-! ### Partner ports (chapter 10) -/

/-- R154 at select falling: the reply if one waits, else the notice at the head of the queue, else an IDLE frame with the port and
gate states as they stand; and the bytes of every notice and every reply, kind by kind (10-3, 10-4, 11-3), in the envelope of kind,
length, payload and CRC. (Model's choices: log 26, 31.) -/
def Obligations.FrameIsChosenAtSelectFalling : Prop :=
  (∀ (p : Port) (s : State), s.loaded = true → (s.port p).exchange = none →
    ∃ t x, exec (.spiExchange p .selectFalls) s = .next t ∧ t.port p = { s.port p with exchange := some x } ∧
      (∀ q, q ≠ p → t.port q = s.port q) ∧ x.intact = true ∧
      (∀ r, (s.port p).slot = .reply r →
        x.frame = r.frame (s.port p).overrun ∧ x.source = .reply ∧ x.overrun = (s.port p).overrun) ∧
      ((∀ r, (s.port p).slot ≠ .reply r) → x.overrun = false ∧
        (∀ n rest, (s.port p).queue = n :: rest → x.frame = n.frame ∧ x.source = .notice n.cls) ∧
        ((s.port p).queue = [] → x.source = .idle ∧
          x.frame = envelope 0x7F
            [match (s.port p).state with | .down => 0#8 | .up => 1#8 | .lost => 2#8,
              match s.cu.gate with | .blocked => 0#8 | .opened => 1#8 | .safe => 2#8]))) ∧
  (∀ n : Notice, n.frame = envelope (noticeBytes n).1 (noticeBytes n).2 ∧
    n.cls = (if (noticeBytes n).1 ≤ 0x44 then .contract else if (noticeBytes n).1 ≤ 0x52 then .command else .warning)) ∧
  (∀ (r : Reply) (overrun : Bool), r.frame overrun = envelope (replyBytes overrun r).1 (replyBytes overrun r).2) ∧
  (∀ (kind : Nat) (payload : List Byte),
    let body := BitVec.ofNat 8 kind :: BitVec.ofNat 8 payload.length :: payload
    envelope kind payload = body ++ [crc8 body]) ∧
  envelope 0x01 [] = [0x01#8, 0x00#8, 0xC2#8]

/-- R154 and R151 at select rising, when nothing was sent in: the bytes of the chosen frame in order and 0x00 after them went out; an
unreplaced reply or notice clocked out whole is removed, and with a reply the overrun flag it carried; else nothing is removed. (Model's choices: log 26, 31.) -/
def Obligations.FrameIsRemovedWhenClockedOutWhole : Prop :=
  ∀ (p : Port) (n : Nat) (x : Exchange) (s : State), s.loaded = true → (s.port p).exchange = some x →
    ∃ t, exec (.spiExchange p (.selectRises (List.replicate n 0#8))) s = .next t ∧ Within [.ports] s t ∧
      (∀ q, q ≠ p → t.port q = s.port q) ∧
      t.port p = { s.port p with
        exchange := none, lastOut := (t.port p).lastOut, slot := (t.port p).slot, queue := (t.port p).queue,
        overrun := (t.port p).overrun } ∧
      (t.port p).lastOut.length = n ∧
      (∀ i, i < n → (t.port p).lastOut[i]? = some (x.frame.getD i 0#8)) ∧
      (x.frame.length ≤ n → x.intact = true →
        (x.source = .idle → (t.port p).slot = (s.port p).slot ∧ (t.port p).queue = (s.port p).queue) ∧
        (x.source = .reply → (t.port p).queue = (s.port p).queue ∧
          ∀ r, (s.port p).slot = .reply r → (t.port p).slot = .empty) ∧
        (∀ c, x.source = .notice c → (t.port p).slot = (s.port p).slot ∧
          ∀ m, m ∈ (t.port p).queue ↔ m ∈ (s.port p).queue ∧ m.cls ≠ c)) ∧
      (n < x.frame.length ∨ x.intact = false → (t.port p).slot = (s.port p).slot ∧ (t.port p).queue = (s.port p).queue) ∧
      ((t.port p).overrun = true ↔ (s.port p).overrun = true ∧ (n < x.frame.length ∨ x.overrun = false))

/-- The inbound frame of an exchange (10-2, 10-4, 10-6): bytes all 0x00 carry none; one that fails its checks is tallied, saturating, and
answered FRAME_ERROR if the slot is free, with no change of state or silence timer; a valid one makes the port UP, starts the
silence timer, and is taken, or with the slot not free discarded with the overrun flag. (Model's choice: log 1.) -/
def Obligations.InboundFrameIsCheckedAndTaken : Prop :=
  ∀ (p : Port) (bytes : List Byte) (s : State), s.loaded = true → (s.port p).exchange = none →
    ∃ t, exec (.spiExchange p (.whole bytes)) s = .next t ∧ Within [.ports, .signals] s t ∧
      (∀ q, q ≠ p → t.port q = s.port q) ∧
      ((∀ b ∈ bytes, b = 0#8) → (t.port p).state = (s.port p).state ∧ (t.port p).silence = (s.port p).silence ∧
        (t.port p).crcTally = (s.port p).crcTally ∧ (t.port p).lengthTally = (s.port p).lengthTally ∧
        (t.port p).kindTally = (s.port p).kindTally ∧ t.signals = s.signals) ∧
      ((∃ b ∈ bytes, b ≠ 0#8) →
        let free := (s.port p).slot = .empty ∨
          ∃ r, (s.port p).slot = .reply r ∧ (r.frame (s.port p).overrun).length ≤ bytes.length
        (∀ cls, checkFrame (partnerLength p) bytes = .error cls →
          (t.port p).state = (s.port p).state ∧ (t.port p).silence = (s.port p).silence ∧ t.signals = s.signals ∧
          (t.port p).crcTally = (if cls = .frameCrc then min 65535 ((s.port p).crcTally + 1) else (s.port p).crcTally) ∧
          (t.port p).lengthTally = (if cls = .frameLength then min 65535 ((s.port p).lengthTally + 1) else (s.port p).lengthTally) ∧
          (t.port p).kindTally = (if cls = .wrongKind then min 65535 ((s.port p).kindTally + 1) else (s.port p).kindTally) ∧
          (free → (t.port p).slot = .reply (.frameError cls)) ∧ (¬ free → (t.port p).slot = (s.port p).slot)) ∧
        (∀ kind payload, checkFrame (partnerLength p) bytes = .ok (kind, payload) →
          (t.port p).state = .up ∧ (t.port p).silence = .running s.settings.silenceWindow ∧
          (t.port p).crcTally = (s.port p).crcTally ∧ (t.port p).lengthTally = (s.port p).lengthTally ∧
          (t.port p).kindTally = (s.port p).kindTally ∧
          (free → (t.port p).slot = match decodePartner p kind payload with
            | some request => .reserved request
            | none => .reply (.answer 0x01 .done false [])) ∧
          (¬ free → (t.port p).slot = (s.port p).slot ∧ (t.port p).overrun = true) ∧
          ((s.port p).state = .up → t.signals = s.signals) ∧
          ((s.port p).state ≠ .up → .conditionLevelChange [.portLost p false] ∈ t.signals ∧
            (p ≠ .genset → p ≠ .brake → .portStateContract p .up ∈ t.signals) ∧
            (p = .genset → .portStateSequencer .up ∈ t.signals) ∧
            (p = .traction ∨ p = .brake → .portStateBlend p .up ∈ t.signals) ∧
            (p = .genset ∨ p = .brake → (s.port p).state = .down → .latePortUpNotice p ∈ t.signals) ∧
            ((s.port p).state = .lost → .latePortUpNotice p ∈ t.signals → .latePortUpNotice p ∈ s.signals))))

/-- Every request a partner can send, put in the envelope of section 10-3 with its kind and payload, passes the checks of R149 on its
port and is read as itself, with every field at every value the frame can hold. -/
def Obligations.PartnerRequestsRoundTrip : Prop :=
  ∀ (i : Instr) (p : Port) (kind : Nat) (payload : List Byte), i.wellFormed = true → encodePartner i = some (p, kind, payload) →
    ∃ k l, checkFrame (partnerLength p) (envelope kind payload) = .ok (k, l) ∧ decodePartner p k l = some i

/-- A notice submitted to a port (10-5): discarded while the port is DOWN, while LOST unless a CONTRACT notice; otherwise it takes the
place of the one of its class, every other notice keeping its place, or joins the tail. -/
def Obligations.NoticesReplaceTheirClassInPlace : Prop :=
  ∀ (pp : PartnerPort) (n : Notice), pp.lawful →
    (pp.submit n).lawful ∧ (pp.submit n).queue.length ≤ 3 ∧
    (pp.state = .down ∨ (pp.state = .lost ∧ n.cls ≠ .contract) → pp.submit n = pp) ∧
    (pp.state = .up ∨ (pp.state = .lost ∧ n.cls = .contract) →
      n ∈ (pp.submit n).queue ∧ (pp.submit n).slot = pp.slot ∧ (pp.submit n).attentionLow = true ∧
      ((∀ m ∈ pp.queue, m.cls ≠ n.cls) → (pp.submit n).queue = pp.queue ++ [n]) ∧
      ((∃ m ∈ pp.queue, m.cls = n.cls) → (pp.submit n).queue.length = pp.queue.length ∧
        ∀ (k : Nat) (m : Notice), pp.queue[k]? = some m → (pp.submit n).queue[k]? = some (if m.cls = n.cls then n else m)))

/-- The silence timer's expiry while the port is UP makes it LOST and leaves the timer stopped, the slot and the queue as they were, and
hands the change to the blocks that act on it (10-6); a timer that is stopped, or a port not UP, has no expiry to take. (Model's choices: log 1, 4.) -/
def Obligations.SilenceMakesThePortLost : Prop :=
  ∀ (p : Port) (s : State), ∃ t, exec (.silenceTimerExpiry p) s = .next t ∧ Within [.ports, .signals] s t ∧
    (∀ q, q ≠ p → t.port q = s.port q) ∧
    ((s.port p).silence ≠ .stopped → (s.port p).state = .up →
      t.port p = { s.port p with state := .lost, silence := .stopped } ∧
      (∃ more, t.signals = s.signals ++ more ∧ .portStateView p .lost ∈ more ∧
        .conditionLevelChange [.portLost p true] ∈ more ∧ (p ≠ .brake → .portStateContract p .lost ∈ more) ∧
        (p = .genset → .portStateSequencer .lost ∈ more) ∧ (p = .brake → .portStateBlend .brake .lost ∈ more))) ∧
    ((s.port p).silence = .stopped ∨ (s.port p).state ≠ .up → t = s)

/-- STATUS_QUERY (R19, R158): the reply carries the status content, byte by byte, and nothing else changes. (Model's choice: log 5.) -/
def Obligations.StatusQueryCarriesTheStatus : Prop :=
  ∀ (p : Port) (s : State), ∃ t, exec (.statusQuery p) s = .next t ∧ Within [.ports] s t ∧
    s.answered t p (.statusQuery p) (.answer 0x02 .status false
      ([match (s.port p).state with | .down => 0#8 | .up => 1#8 | .lost => 2#8,
        match s.cu.gate with | .blocked => 0#8 | .opened => 1#8 | .safe => 2#8,
        BitVec.ofNat 8 (match s.cu.active with | some c => c.number | none => 0),
        BitVec.ofNat 8 (match s.cu.proposal with | some c => c.number | none => 0),
        if (s.port p).overrun then 1#8 else 0#8] ++
      twoBytes (s.port p).crcTally ++ twoBytes (s.port p).lengthTally ++ twoBytes (s.port p).kindTally ++
      (match p with
        | .traction => s.placeBytes s.view.traction ++
          twoBytes (match s.view.traction with | some x => (x.content.motorTemp % 65536).toNat | none => 0)
        | .pack => s.placeBytes s.view.pack ++ listBytes s.view.storage
        | .genset => s.placeBytes s.view.genset ++ listBytes s.view.gensetList ++
          [match s.gs.state with
            | .unknown => 0#8 | .stopped => 1#8 | .cranking => 2#8 | .resting => 3#8
            | .warming => 4#8 | .online => 5#8 | .cooldown => 6#8 | .lockedOut => 7#8]
        | .brake => s.placeBytes s.view.brake ++
          [match s.view.brake with | some x => (if x.content.parking then 1#8 else 0#8) | none => 0#8])))

/-- PORT_RESET and TALLY_CLEAR of a partner port (10-6, 11-4), and their refusal for a number that names none. (Model's choices: log 1, 15.) -/
def Obligations.PortResetAndTallyClear : Prop :=
  ∀ (n : Nat) (s : State),
    (∃ t, exec (.portReset n) s = .next t ∧
      (3 < n → t.ports = s.ports ∧ t.signals = s.signals ∧ t.blend = s.blend ∧
        s.repliesService t (.portReset n) (.answer 0x67 (.refused .unknownItem) false [])) ∧
      (∀ p, p.index = n → Within [.ports, .blend, .signals, .svc] s t ∧ (∀ q, q ≠ p → t.port q = s.port q) ∧
        (t.port p).state = .down ∧ (t.port p).silence = .stopped ∧ (t.port p).slot = .empty ∧ (t.port p).queue = [] ∧
        (t.port p).crcTally = 0 ∧ (t.port p).lengthTally = 0 ∧ (t.port p).kindTally = 0 ∧ (t.port p).overrun = false ∧
        (p = .traction → t.blend = { s.blend with regenCopy := none }) ∧
        (p = .brake → t.blend = { s.blend with frictionCopy := none } ∧ .portStateBlend .brake .down ∈ t.signals) ∧
        .portStateView p .down ∈ t.signals ∧ (p ≠ .brake → .portStateContract p .down ∈ t.signals) ∧
        (p = .genset → .portStateSequencer .down ∈ t.signals) ∧ .conditionLevelChange [.portLost p false] ∈ t.signals ∧
        s.repliesService t (.portReset n) (.answer 0x67 .done false []))) ∧
    (∃ t, exec (.tallyClear n) s = .next t ∧
      (3 < n → t.ports = s.ports ∧ s.repliesService t (.tallyClear n) (.answer 0x68 (.refused .unknownItem) false [])) ∧
      (∀ p, p.index = n → Within [.ports, .svc] s t ∧ (∀ q, q ≠ p → t.port q = s.port q) ∧
        t.port p = { s.port p with crcTally := 0, lengthTally := 0, kindTally := 0 } ∧
        s.repliesService t (.tallyClear n) (.answer 0x68 .done false [])))

/-! ### The contract protocol (chapter 3) -/

/-- The four signals that are triggers and nothing else (R51): each is taken, and the trigger has the effect section 3-5 gives it. (Model's choices: log 3, 14.) -/
def Obligations.TriggersAreTakenByTheRoundState : Prop :=
  ∀ (c : Instr) (s : State), c ∈ [Instr.gensetEntersOnline, .penaltyChange, .quietZoneChange, .auxChange] →
    ∃ t, exec c s = .next t ∧ Within contractPieces s t ∧ State.triggered { s with signals := s.signals.erase c } t

/-- ACCEPT short of an activation (R39, R44): refused while the gate is not OPEN, STALE for a number or a party that is not the
pending proposal's, else DONE with the party's accepted mark set. (Model's choice: log 5.) -/
def Obligations.AcceptIsAnswered : Prop :=
  ∀ (party : Party) (n : Nat) (s : State), ∃ t, exec (.accept party n) s = .next t ∧
    (s.cu.gate ≠ .opened → Within [.ports] s t ∧
      s.answered t party.port (.accept party n) (.answer 0x20 (.refused .notOpen) false [])) ∧
    (s.cu.gate = .opened → (∀ p, s.cu.proposal = some p → p.number ≠ n ∨ p.required.has party = false) →
      Within [.ports] s t ∧ s.answered t party.port (.accept party n) (.answer 0x20 .stale false [])) ∧
    (s.cu.gate = .opened → ∀ p, s.cu.proposal = some p → p.number = n → p.required.has party = true →
      s.repliesOn t party.port (.accept party n) (.answer 0x20 .done false []) ∧
      (p.accepted.has party = true → Within [.ports] s t ∧
        s.answered t party.port (.accept party n) (.answer 0x20 .done false [])) ∧
      (p.accepted.has party = false → (∃ q, q ≠ party ∧ p.required.has q = true ∧ p.accepted.has q = false) →
        Within [.cu, .ports] s t ∧ s.answered t party.port (.accept party n) (.answer 0x20 .done false []) ∧
        ∃ a, t.cu = { s.cu with proposal := some { p with accepted := a } } ∧
          ∀ q, a.has q = true ↔ q = party ∨ p.accepted.has q = true))

/-- The last required acceptance activates the proposal (R45, R48): the contract and its figures, the marks, the reference, the peak
expiry timer, the notices, what the other units are told, and the run the flag calls for. (Model's choice: log 1.) -/
def Obligations.LastAcceptanceActivates : Prop :=
  ∀ (party : Party) (p : Proposal) (s : State), s.cu.gate = .opened → s.cu.proposal = some p →
    p.required.has party = true → p.accepted.has party = false →
    (∀ q, q ≠ party → p.required.has q = true → p.accepted.has q = true) →
    ∃ t m, exec (.accept party p.number) s = .next t ∧ Within contractPieces s t ∧
      (let charge := min p.terms.charge s.acceptance
      let commitment := p.terms.commitment - (p.terms.charge - charge)
      let u := { p.terms with
        charge := charge, commitment := commitment,
        gensetIndex := if charge < p.terms.charge ∧ commitment = 0 then none else p.terms.gensetIndex,
        ceiling := min s.acceptance s.settings.regenCap - charge }
      let continues := s.cu.peak ≠ .stopped ∧ s.cu.peakSerial = s.view.storageSerial ∧
        ∃ r, s.cu.active = some r ∧ r.terms.storageIndex = u.storageIndex
      m.cu = { s.cu with
        active := some ⟨p.number, u⟩, proposal := none, window := .stopped, round := .idle,
        peak := m.cu.peak, peakSerial := m.cu.peakSerial, settled := m.cu.settled } ∧
      m.cu.settled = false ∧
      (u.peak = none → m.cu.peak = .stopped) ∧
      (∀ d, u.peak = some d → (continues → m.cu.peak = s.cu.peak) ∧ (¬ continues → m.cu.peak = .running (1000 * d))) ∧
      m.view.reference = some (u.basisReq, u.basisMin) ∧
      m.view = { s.view with
        reference := m.view.reference, storage := m.view.storage, gensetList := m.view.gensetList } ∧
      (∀ l, m.view.storage = some l ∨ m.view.gensetList = some l → ∀ o ∈ l.content, o.excluded = false) ∧
      s.queuedOn m (fun _ => True) (.contractActive p.number u) ∧
      ∃ more, m.signals = s.signals ++ more ∧ .modeDerivation ∈ more ∧
        (.commitmentHanded u.commitment u.gensetIndex ∈ more ↔
          match s.cu.active with
          | none => u.commitment ≠ 0
          | some r => u.commitment ≠ r.terms.commitment ∨ u.gensetIndex ≠ r.terms.gensetIndex) ∧
        (.blendImmediateRun ∈ more ↔
          match s.cu.active with
          | none => True
          | some r => u.ceiling + u.aux < r.terms.ceiling + r.terms.aux)) ∧
      (s.cu.settled = false → t = m) ∧ (s.cu.settled = true → m.ran t 1 false)

/-- DECLINE (R39, R46, R47): its answer, with CLAMPED on a reason outside R46's; the proposal it discards; and what follows. (Model's choices: log 5, 18.) -/
def Obligations.DeclineDiscardsTheProposal : Prop :=
  ∀ (party : Party) (n reason : Nat) (s : State), ∃ t, exec (.decline party n reason) s = .next t ∧ Within contractPieces s t ∧
    (s.cu.gate ≠ .opened → Within [.ports] s t ∧ s.answered t party.port (.decline party n reason)
      (.answer 0x21 (.refused .notOpen) (decide (3 < reason)) [])) ∧
    (s.cu.gate = .opened → (∀ p, s.cu.proposal = some p → p.number ≠ n ∨ p.required.has party = false) →
      Within [.ports] s t ∧ s.answered t party.port (.decline party n reason) (.answer 0x21 .stale (decide (3 < reason)) [])) ∧
    (s.cu.gate = .opened → ∀ p, s.cu.proposal = some p → p.number = n → p.required.has party = true →
      ∃ a m, Within [.ports] s a ∧
        s.answered a party.port (.decline party n reason) (.answer 0x21 .done (decide (3 < reason)) []) ∧
        a.discarded m p ⟨party == .traction, party == .pack, party == .genset⟩
          (if reason = 0 then .overLimit else if reason = 1 then .notReady else if reason = 2 then .thermal else .other) ∧
        m.continued t (party == .traction))

/-- The acceptance window's expiry is a decline by every required party not marked (R49), and the round rest's expiry takes a run
(R47); an expiry of a stopped timer does nothing (log 4). (Model's choices: log 4, 14.) -/
def Obligations.WindowAndRestExpire : Prop :=
  (∀ s : State, ∃ t, exec .acceptanceWindowExpiry s = .next t ∧ Within contractPieces s t ∧
    (s.cu.window = .stopped → t = s) ∧
    (s.cu.window ≠ .stopped → ∀ p, s.cu.proposal = some p → ∃ m missing,
      (∀ q, missing.has q = true ↔ p.required.has q = true ∧ p.accepted.has q = false) ∧
      s.discarded m p missing .timeout ∧ m.continued t missing.traction)) ∧
  (∀ s : State, ∃ t, exec .roundRestExpiry s = .next t ∧ Within contractPieces s t ∧
    (s.cu.rest = .stopped → t = s) ∧
    (s.cu.rest ≠ .stopped → State.triggered { s with cu := { s.cu with rest := .stopped, round := .idle } } t))

/-- YIELD (R39, R54, R55, R57): its answer on each port; taken OPEN with a contract or proposal, the withdrawal, the reduction to
what can still be given, and the run. (Model's choices: log 5, 14, 18.) -/
def Obligations.YieldReducesTheContract : Prop :=
  ∀ (p : Port) (kw : Nat) (s : State), ∃ t, exec (.yieldPower p kw) s = .next t ∧ Within contractPieces s t ∧
    (p = .traction ∨ p = .brake → Within [.ports] s t ∧
      s.answered t p (.yieldPower p kw) (.answer 0x22 (.refused .notSource) false [])) ∧
    (p = .pack ∨ p = .genset → s.cu.gate ≠ .opened → Within [.ports] s t ∧
      s.answered t p (.yieldPower p kw) (.answer 0x22 (.refused .notOpen) false [])) ∧
    (p = .pack ∨ p = .genset → s.cu.gate = .opened →
      ∃ a, Within [.ports] s a ∧ s.answered a p (.yieldPower p kw) (.answer 0x22 .done (decide (1023 < kw)) []) ∧
        (s.cu.active = none → s.cu.proposal = none → t = a) ∧
        (s.cu.active ≠ none ∨ s.cu.proposal ≠ none → ∃ w m, a.withdrawn w ∧ m.triggered t ∧
          (p = .pack → w.reducedWhen m (fun _ => True)
            (fun u => min (w.effAt u.storageIndex) (min kw 1023 * (100 - s.wear.battery.derate) / 100))
            (fun u => u.commitment)) ∧
          (p = .genset → w.reducedWhen m (fun u => u.gensetIndex ≠ none) (fun u => w.effAt u.storageIndex)
            (fun _ => min kw 1023))))

/-- The figures of R53 and R56: a charge allowance brought down to the acceptance, the ceiling, and the reduction to given powers, with
its three reasons to drop; and the effective figures of R21 they are made from, no entry counting 0 (log 11). (Model's choice: log 11.) -/
def Obligations.RevisionAndReductionFigures : Prop :=
  (∀ (t : Terms) (acc cap : Nat), let u := t.refit acc cap
    u = { t with charge := u.charge, commitment := u.commitment, gensetIndex := u.gensetIndex, ceiling := u.ceiling } ∧
      u.charge = min t.charge acc ∧ (t.charge ≤ t.commitment → u.commitment + (t.charge - u.charge) = t.commitment) ∧
      u.gensetIndex = (if acc < t.charge ∧ u.commitment = 0 then none else t.gensetIndex) ∧
      u.ceiling = min acc cap - u.charge) ∧
  (∀ (t : Terms) (sAvail gAvail acc cap : Nat) (giveBack : Bool),
    let need := t.grant + t.aux
    let g := min t.commitment (min gAvail need)
    let left : Int := (sAvail + g : Nat) - (t.aux : Int)
    (need ≤ sAvail + g → ∃ u, t.reduce sAvail gAvail acc cap giveBack = .ok u ∧ u.grant = t.grant ∧ u.share = need - g ∧
      u.commitment = g ∧ u.charge = 0 ∧ u.gensetIndex = (if g = 0 then none else t.gensetIndex) ∧ u.reduced = true ∧
      u.ceiling = min acc cap ∧ u = { t with
        grant := u.grant, share := u.share, commitment := u.commitment, charge := u.charge, gensetIndex := u.gensetIndex,
        reduced := u.reduced, ceiling := u.ceiling }) ∧
    (sAvail + g < need →
      (left < 0 → t.reduce sAvail gAvail acc cap giveBack = .error .supplyBelowAux) ∧
      (0 ≤ left → left < t.basisMin → t.reduce sAvail gAvail acc cap giveBack = .error .belowMinimum) ∧
      (0 ≤ left → t.basisMin ≤ left → giveBack = false → t.reduce sAvail gAvail acc cap giveBack = .error .noGiveBack) ∧
      (0 ≤ left → t.basisMin ≤ left → giveBack = true → ∃ u, t.reduce sAvail gAvail acc cap giveBack = .ok u ∧
        (u.grant : Int) = left ∧ u.share = sAvail ∧ u.commitment = g ∧ u.charge = 0 ∧
        u.gensetIndex = (if g = 0 then none else t.gensetIndex) ∧ u.reduced = true ∧ u.ceiling = min acc cap ∧
        u = { t with
          grant := u.grant, share := u.share, commitment := u.commitment, charge := u.charge, gensetIndex := u.gensetIndex,
          reduced := u.reduced, ceiling := u.ceiling }))) ∧
  (∀ s : State, (∀ k, s.view.pack = some k → s.acceptance = k.content.aAcc * (100 - s.wear.battery.derate) / 100) ∧
    (∀ l (i : Nat) (o : Offer), s.view.storage = some l → l.content[i]? = some o →
      s.effAt (i + 1) = o.power * (100 - s.wear.battery.derate) / 100) ∧
    (∀ l (i : Nat) (o : Offer), s.view.gensetList = some l → l.content[i]? = some o → s.gensetAt (i + 1) = o.power) ∧
    (∀ i, (∀ l, s.view.storage = some l → i = 0 ∨ l.content.length < i) → s.effAt i = 0) ∧
    (∀ i, (∀ l, s.view.gensetList = some l → i = 0 ∨ l.content.length < i) → s.gensetAt i = 0))

/-- The peak expiry timer's expiry (R8, R54, R58): the mark, the withdrawal, the move to the best usable CONTINUOUS entry or to none,
the reduction, and the run. (Model's choices: log 4, 14.) -/
def Obligations.PeakExpiryMovesOrReduces : Prop :=
  ∀ s : State, ∃ t, exec .peakExpiry s = .next t ∧ Within contractPieces s t ∧
    (s.cu.peak = .stopped → t = s) ∧
    (s.cu.peak ≠ .stopped → ∃ a w m,
      a.cu = { s.cu with peak := .stopped } ∧ Within [.cu, .view] s a ∧
      a.view = { s.view with storage := a.view.storage } ∧
      (∀ c l (i : Nat) (o : Offer), s.cu.active = some c → s.view.storage = some l → l.content[i]? = some o →
        ∃ k, a.view.storage = some k ∧ k.content[i]? = some
          (if i + 1 = c.terms.storageIndex ∧ s.cu.peakSerial = s.view.storageSerial ∧ o.duration ≠ none
            then { o with expired := true } else o)) ∧
      a.withdrawn w ∧ m.triggered t ∧ (s.cu.active = none → m = w) ∧
      ∀ c, s.cu.active = some c →
        let lasting := fun (i : Nat) (o : Offer) => ∃ l, a.view.storage = some l ∧ 1 ≤ i ∧ l.content[i - 1]? = some o ∧
          o.duration = none ∧ o.excluded = false ∧ o.expired = false ∧ (s.quiet = true → o.quiet = true)
        let eff := fun (o : Offer) => o.power * (100 - s.wear.battery.derate) / 100
        ((∃ i o, lasting i o) → ∃ i o, lasting i o ∧
          (∀ j q, lasting j q → j ≠ i →
            eff q < eff o ∨ (eff q = eff o ∧ (o.cost < q.cost ∨ (o.cost = q.cost ∧ i < j)))) ∧
          w.reduction m c { c.terms with peak := none, storageIndex := i } (eff o) c.terms.commitment) ∧
        ((¬ ∃ i o, lasting i o) → w.reduction m c { c.terms with peak := none } 0 c.terms.commitment))

/-- The state of a port at the Contract Unit (R37, R38, R59): a Traction or Pack port gone while the gate is OPEN drops the contract, any
other change of theirs tests the gate; the Genset port gone declines as LOST the proposal that requires it. (Model's choices: log 3, 14, 29, 33.) -/
def Obligations.PortStatesAtTheContractUnit : Prop :=
  ∀ (p : Port) (now : PortState) (s : State), ∃ t, exec (.portStateContract p now) s = .next t ∧ Within contractPieces s t ∧
    let a := { s with signals := s.signals.erase (.portStateContract p now) }
    (p = .traction ∨ p = .pack →
      (now ≠ .up → s.cu.gate = .opened → a.droppedFor t (if p = .traction then .tractionLost else .packLost)) ∧
      (now = .up ∨ s.cu.gate ≠ .opened → a.gateTested t)) ∧
    (p = .genset →
      (∀ q, now ≠ .up → s.cu.gate = .opened → s.cu.proposal = some q → q.required.genset = true →
        ∃ m, a.discarded m q ⟨false, false, true⟩ .lost ∧ m.continued t false) ∧
      (now = .up ∨ s.cu.gate ≠ .opened ∨ (∀ q, s.cu.proposal = some q → q.required.genset = false) → t = a)) ∧
    (p = .brake → t = a)

/-- R168's notice: the active contract is queued again on a Genset or Brake port come UP from DOWN while the gate is OPEN. (Model's choices: log 3, 28.) -/
def Obligations.LatePortIsTold : Prop :=
  ∀ (p : Port) (s : State), ∃ t, exec (.latePortUpNotice p) s = .next t ∧ Within [.ports, .signals] s t ∧
    t.signals = s.signals.erase (.latePortUpNotice p) ∧ (∀ q, q ≠ p → t.port q = s.port q) ∧
    (∀ c, p = .genset ∨ p = .brake → s.cu.gate = .opened → s.cu.active = some c →
      s.queuedOn t (fun q => q = p) (.contractActive c.number c.terms)) ∧
    (p = .traction ∨ p = .pack ∨ s.cu.gate ≠ .opened ∨ s.cu.active = none → t.ports = s.ports)

/-- An arrival notice (R12, R24, R37, R38, R51, R53 to R55): the since-drop flag, the charge need with its activity, then the test of the
gate, or while it is OPEN the revision, what a list calls for, and the trigger (in this order by log 12). (Model's choices: log 3, 12, 14, 24, 33.) -/
def Obligations.ArrivalNoticesAreTaken : Prop :=
  ∀ (kind : ArrivalKind) (ch : ChangeSet) (s : State), ∃ t a, exec (.arrivalNotice kind ch) s = .next t ∧
    Within contractPieces s t ∧ Within [.cu, .signals] s a ∧
    (∃ need, a.cu = { s.cu with
        sinceTraction := s.cu.sinceTraction || kind == .traction,
        sincePack := s.cu.sincePack || kind == .pack,
        chargeNeed := need } ∧
      (∀ k, ch.chargeMark = true → s.view.pack = some k →
        need = (if k.content.soc < s.settings.chargeStart then true
          else if s.settings.chargeStop ≤ k.content.soc then false else s.cu.chargeNeed)) ∧
      (ch.chargeMark = false ∨ s.view.pack = none → need = s.cu.chargeNeed) ∧
      a.signals = s.signals.erase (.arrivalNotice kind ch) ++
        (if need = true ∧ s.cu.chargeNeed = false then [.activitySignal .socLow] else [])) ∧
    (s.cu.gate ≠ .opened → a.gateTested t) ∧
    (s.cu.gate = .opened → ∃ r l, (ch.acceptance = true → a.revisedFor r) ∧ (ch.acceptance = false → r = a) ∧
      (ch.offers = true → kind = .storageList → r.listTaken l .pack) ∧
      (ch.offers = true → kind = .gensetList → r.listTaken l .genset) ∧
      (ch.offers = false ∨ kind = .traction ∨ kind = .pack → l = r) ∧
      (ch.basis = true ∨ ch.giveBack = true ∨ ch.offers = true ∨ a.cu.chargeNeed ≠ s.cu.chargeNeed → l.triggered t) ∧
      (ch.basis = false → ch.giveBack = false → ch.offers = false → a.cu.chargeNeed = s.cu.chargeNeed → t = l))

/-- The genset's leaving ONLINE, and a change of the battery derate (R51, R53 to R55; log 13): while the gate is OPEN the withdrawal,
the revision and the reduction each calls for, then the trigger. (Model's choices: log 3, 13, 14, 24.) -/
def Obligations.SupplyChangesAreTaken : Prop :=
  (∀ s : State, ∃ t, exec .gensetLeavesOnline s = .next t ∧ Within contractPieces s t ∧
    let a := { s with signals := s.signals.erase .gensetLeavesOnline }
    (s.cu.gate ≠ .opened → t = a) ∧
    (s.cu.gate = .opened → ∃ w m,
      ((∃ p, s.cu.proposal = some p ∧ p.terms.gensetIndex ≠ none) → a.withdrawn w) ∧
      ((∀ p, s.cu.proposal = some p → p.terms.gensetIndex = none) → w = a) ∧
      w.reducedWhen m (fun u => u.gensetIndex ≠ none) (fun u => w.effAt u.storageIndex) (fun _ => 0) ∧ m.triggered t)) ∧
  (∀ s : State, ∃ t, exec .derateChange s = .next t ∧ Within contractPieces s t ∧
    let a := { s with signals := s.signals.erase .derateChange }
    (s.cu.gate ≠ .opened → t = a) ∧
    (s.cu.gate = .opened → ∃ r w m, a.revisedFor r ∧
      ((∃ p, s.cu.proposal = some p ∧ s.effAt p.terms.storageIndex < p.terms.share) → r.withdrawn w) ∧
      ((∀ p, s.cu.proposal = some p → p.terms.share ≤ s.effAt p.terms.storageIndex) → w = r) ∧
      w.reducedWhen m (fun u => w.effAt u.storageIndex < u.share) (fun u => w.effAt u.storageIndex)
        (fun u => u.commitment) ∧ m.triggered t))

/-- A charge mark written (R24, R162): stored within 0 to 1000; if it changed, the charge need is evaluated, and a changed need is a
trigger while the gate is OPEN. (Model's choices: log 10, 14.) -/
def Obligations.ChargeMarkIsWritten : Prop :=
  ∀ (mark : ChargeMark) (value : Int) (s : State), ∃ t m, exec (.writeChargeMark mark value) s = .next t ∧
    s.repliesService t (.writeChargeMark mark value) (.answer 0x61 .done (decide (value < 0 ∨ 1000 < value)) []) ∧
    t = { m with svc := t.svc } ∧ Within (.settings :: contractPieces) s m ∧
    let v := (max 0 (min 1000 value)).toNat
    let x := match mark with
      | .start => { s.settings with chargeStart := v }
      | .stop => { s.settings with chargeStop := v }
    m.settings = x ∧
    (x = s.settings ∨ s.view.pack = none → m = { s with settings := x }) ∧
    (∀ k, x ≠ s.settings → s.view.pack = some k →
      let need := if k.content.soc < x.chargeStart then true else if x.chargeStop ≤ k.content.soc then false else s.cu.chargeNeed
      let a := { s with
        settings := x, cu := { s.cu with chargeNeed := need },
        signals := s.signals ++ if need = true ∧ s.cu.chargeNeed = false then [.activitySignal .socLow] else [] }
      (need = s.cu.chargeNeed → m = a) ∧ (need ≠ s.cu.chargeNeed → a.triggered m))

/-! ### The Genset Sequencer (chapter 4) -/

/-- A genset report in each state (4-4, 4-5, 4-7, 4-8, 4-10): the state it leads to, the command queued, the timers, the lockout on
a fault or an unbidden stop, and the start points of a crank that ends in RUNNING. (Model's choices: log 3, 34.) -/
def Obligations.GensetReportsAreTaken : Prop :=
  ∀ (cond : EngineCondition) (coolant : Int) (fault : Option Nat) (s : State),
    ∃ t, exec (.gensetReportSignal cond coolant fault) s = .next t ∧ Within gensetPieces s t ∧
      let a := { s with signals := s.signals.erase (.gensetReportSignal cond coolant fault) }
      (s.gs.state = .unknown ∧ cond = .stopped → a.enteredStopped t none s.gs) ∧
      (s.gs.state = .unknown ∧ cond = .cranking → a.enteredStopped t (some .stop) s.gs) ∧
      (s.gs.state = .unknown ∧ cond = .running → a.enteredCooldown t) ∧
      (s.gs.state ≠ .lockedOut ∧ cond = .fault → a.locked t .fault fault ∧ a.commanded t .stop none 0) ∧
      ((s.gs.state = .warming ∨ s.gs.state = .online) ∧ cond = .stopped →
        a.locked t .fault none ∧ a.commanded t .stop none 0) ∧
      ((s.gs.state = .stopped ∨ s.gs.state = .resting) ∧ (cond = .cranking ∨ cond = .running) →
        t.gs = s.gs ∧ a.commanded t .stop none 0 ∧ a.raised t []) ∧
      (s.gs.state = .cranking ∧ cond = .running →
        let cold := coolant < s.settings.warmTemp
        let m : State := { a with
          gs := { s.gs with state := .warming, crank := .stopped }
          signals := a.signals ++ [Instr.startPointsHandOff (if cold then 3 else 1)] }
        (cold → t = { m with gs := { m.gs with warm := .running (1000 * s.settings.warm) } }) ∧
        (¬ cold → m.enteredOnline t)) ∧
      (s.gs.state = .warming ∧ cond = .running ∧ s.settings.warmTemp ≤ coolant → a.enteredOnline t) ∧
      (s.gs.state = .cooldown ∧ cond = .stopped → a.enteredStopped t none { s.gs with cooldown := .stopped }) ∧
      (s.gs.state = .lockedOut ∨ ((s.gs.state = .stopped ∨ s.gs.state = .resting) ∧ cond = .stopped) ∨
        (s.gs.state = .cranking ∧ (cond = .stopped ∨ cond = .cranking)) ∨
        (s.gs.state = .warming ∧ (cond = .cranking ∨ (cond = .running ∧ coolant < s.settings.warmTemp))) ∨
        ((s.gs.state = .online ∨ s.gs.state = .cooldown) ∧ (cond = .cranking ∨ cond = .running)) → t = a)

/-- The events at which start need is evaluated (R66, R73, R81), with the effect each has first: genset wanted into the wanted copy and
cause (kept at a lowering, log 30), the critical mark, the quiet zone, and the Genset port UP. (Model's choices: log 3, 30, 34.) -/
def Obligations.StartNeedIsEvaluated : Prop :=
  (∀ (wanted : Bool) (cause : WantCause) (s : State), ∃ t m, exec (.gensetWantedChange wanted cause) s = .next t ∧
    Within gensetPieces s t ∧
    State.evaluated { s with
      signals := s.signals.erase (.gensetWantedChange wanted cause)
      gs := { s.gs with wantedCopy := wanted, wantCause := if wanted = true then some cause else s.gs.wantCause } } m ∧
    m.idleRuled t) ∧
  (∀ s : State, ∃ t, exec .criticalMarkSignal s = .next t ∧ Within gensetPieces s t ∧
    State.evaluated { s with signals := s.signals.erase .criticalMarkSignal } t) ∧
  (∀ (value : Int) (s : State), ∃ t m, exec (.writeCriticalMark value) s = .next t ∧ t = { m with svc := t.svc } ∧
    Within (.settings :: gensetPieces) s m ∧
    s.repliesService t (.writeCriticalMark value) (.answer 0x61 .done (decide (value < 0 ∨ 1000 < value)) []) ∧
    let mark := (max 0 (min 1000 value)).toNat
    let a := { s with settings := { s.settings with criticalMark := mark } }
    (mark = s.settings.criticalMark → m = a) ∧ (mark ≠ s.settings.criticalMark → a.evaluated m)) ∧
  (∀ (on : Bool) (s : State), ∃ t m, exec (.quietZoneSequencer on) s = .next t ∧ Within gensetPieces s t ∧ m.evaluated t ∧
    let a := { s with signals := s.signals.erase (.quietZoneSequencer on) }
    (on = true → s.gs.idleOff ≠ .stopped → a.idledOff m .quietZone) ∧
    (∀ n, on = true → s.gs.idleOff = .stopped → s.gs.state = .cooldown → s.gs.cooldown = .running n →
      m = { a with gs := { s.gs with cooldown := .running (min n (1000 * s.settings.quietCooldown)) } }) ∧
    (on = false ∨ (s.gs.idleOff = .stopped ∧ (s.gs.state ≠ .cooldown ∨ s.gs.cooldown = .stopped)) → m = a)) ∧
  (∀ s : State, ∃ t, exec (.portStateSequencer .up) s = .next t ∧ Within gensetPieces s t ∧
    State.evaluated { s with signals := s.signals.erase (.portStateSequencer .up) } t)

/-- The five timers' expiries (R69 to R71, R73, R74, R76); an expiry of a stopped timer does nothing (log 4), and the idle-off timer of
code 0 has none. (Model's choices: log 4, 34.) -/
def Obligations.SequencerTimersExpire : Prop :=
  (∀ s : State, ∃ t, exec .crankTimerExpiry s = .next t ∧ Within gensetPieces s t ∧
    (s.gs.crank = .stopped → t = s) ∧
    (s.gs.crank ≠ .stopped → s.commanded t .stop none 0 ∧
      (s.gs.attempts < 3 → t.gs = { s.gs with state := .resting, crank := .stopped, rest := .running 10000 } ∧ s.raised t []) ∧
      (3 ≤ s.gs.attempts → s.locked t .noStart none))) ∧
  (∀ s : State, ∃ t, exec .restTimerExpiry s = .next t ∧ Within gensetPieces s t ∧
    (s.gs.rest = .stopped → t = s) ∧
    (s.gs.rest ≠ .stopped → s.enteredStopped t none { s.gs with rest := .stopped })) ∧
  (∀ s : State, ∃ t, exec .warmTimerExpiry s = .next t ∧ Within gensetPieces s t ∧
    (s.gs.warm = .stopped → t = s) ∧ (s.gs.warm ≠ .stopped → s.enteredOnline t)) ∧
  (∀ s : State, ∃ t, exec .idleOffExpiry s = .next t ∧ Within gensetPieces s t ∧
    (s.gs.idleOff = .stopped ∨ s.gs.idleOff = .endless → t = s) ∧
    (∀ n, s.gs.idleOff = .running n → ∃ m, s.idledOff m .idleOff ∧ m.evaluated t)) ∧
  (∀ s : State, ∃ t, exec .cooldownTimerExpiry s = .next t ∧ Within gensetPieces s t ∧
    (s.gs.cooldown = .stopped → t = s) ∧
    (s.gs.cooldown ≠ .stopped → s.enteredStopped t (some .stop) { s.gs with cooldown := .stopped }))

/-- A commitment handed on is held, tells the genset controller only in ONLINE and only when it differs, and applies R73 (R72). (Model's choice: log 3.) -/
def Obligations.CommitmentsAreHeld : Prop :=
  ∀ (kw : Nat) (index : Option Nat) (s : State), ∃ t, exec (.commitmentHanded kw index) s = .next t ∧ Within gensetPieces s t ∧
    let a := { s with signals := s.signals.erase (.commitmentHanded kw index) }
    (s.gs.heldKw = kw → s.gs.heldIndex = index → t = a) ∧
    (s.gs.heldKw ≠ kw ∨ s.gs.heldIndex ≠ index → ∃ m, m.gs = { s.gs with heldKw := kw, heldIndex := index } ∧
      Within gensetPieces a m ∧ a.raised m [] ∧ m.idleRuled t ∧
      (s.gs.state = .online → s.commanded m .operate index kw) ∧ (s.gs.state ≠ .online → m.ports = s.ports))

/-- Activity (R68, R75): the source's latch, and unless the source is masked the restart of a running idle-off timer; an ACTIVITY
command also starts the engine from STOPPED when permission holds; reading the activity status clears it. (Model's choice: log 3.) -/
def Obligations.ActivityIsTaken : Prop :=
  let latched := fun (s : State) (src : ActivitySource) (g : Sequencer) =>
    g = { s.gs with activity := g.activity, idleOff := g.idleOff } ∧
    (g.activity.tractionRise = true ↔ src = .tractionRise ∨ s.gs.activity.tractionRise = true) ∧
    (g.activity.brakeRelease = true ↔ src = .brakeRelease ∨ s.gs.activity.brakeRelease = true) ∧
    (g.activity.socLow = true ↔ src = .socLow ∨ s.gs.activity.socLow = true) ∧
    (g.activity.service = true ↔ src = .service ∨ s.gs.activity.service = true) ∧
    (let masked := match src with
      | .tractionRise => s.settings.maskTractionRise
      | .brakeRelease => s.settings.maskBrakeRelease
      | .socLow => s.settings.maskSocLow
      | .service => s.settings.maskService
    g.idleOff = if s.gs.idleOff ≠ .stopped ∧ masked = false then idleStarted s.settings.idleOffCode else s.gs.idleOff)
  (∀ (src : ActivitySource) (s : State), ∃ t, exec (.activitySignal src) s = .next t ∧
    t = { s with signals := s.signals.erase (.activitySignal src), gs := t.gs } ∧ latched s src t.gs) ∧
  (∀ s : State, ∃ (t a m : State), exec .activity s = .next t ∧ t = { m with svc := t.svc } ∧
    s.repliesService t .activity (.answer 0x65 .done false []) ∧
    a = { s with gs := a.gs } ∧ latched s .service a.gs ∧
    (s.gs.state = .stopped → s.permitsStart → a.started m .service) ∧
    (s.gs.state ≠ .stopped ∨ ¬ s.permitsStart → m = a)) ∧
  (∀ s : State, ∃ t, exec .activityStatusRead s = .next t ∧
    t = { s with gs := { s.gs with activity := ⟨false, false, false, false⟩ }, svc := t.svc } ∧
    s.repliesService t .activityStatusRead (.answer 0x60 .done false
      [BitVec.ofNat 8 ((if s.gs.activity.tractionRise then 1 else 0) + (if s.gs.activity.brakeRelease then 2 else 0) +
        (if s.gs.activity.socLow then 4 else 0) + (if s.gs.activity.service then 8 else 0)), 0, 0, 0]))

/-- The Genset port's loss and reset at the sequencer (R78), and CLEAR_LOCKOUT (R79, R163). (Model's choices: log 3, 15, 34.) -/
def Obligations.LockoutsAreSetAndCleared : Prop :=
  (∀ s : State, ∃ t, exec (.portStateSequencer .lost) s = .next t ∧ Within [.gs, .signals] s t ∧
    let a := { s with signals := s.signals.erase (.portStateSequencer .lost) }
    (s.gs.state = .unknown ∨ s.gs.state = .lockedOut → t = a) ∧
    (s.gs.state ≠ .unknown → s.gs.state ≠ .lockedOut → a.locked t .portLost none)) ∧
  (∀ s : State, ∃ t, exec (.portStateSequencer .down) s = .next t ∧ Within [.gs, .signals] s t ∧
    let a := { s with signals := s.signals.erase (.portStateSequencer .down) }
    (s.gs.state = .lockedOut → t = a) ∧ (s.gs.state ≠ .lockedOut → a.locked t .portLost none)) ∧
  (∀ s : State, ∃ t m, exec .clearLockout s = .next t ∧ t = { m with svc := t.svc } ∧ Within gensetPieces s m ∧
    s.repliesService t .clearLockout (.answer 0x64 .done false []) ∧
    (s.gs.state ≠ .lockedOut → m = s) ∧
    (s.gs.state = .lockedOut →
      let kept : Sequencer := { s.gs with attempts := 0 }
      let told := s.signals ++ [Instr.conditionLevelChange [.gensetLockout false]]
      let cleared : State := { s with gs := kept, signals := told }
      let up := (s.port .genset).state = .up
      (¬ up ∨ s.view.genset = none → m = { s with gs := { kept with state := .unknown }, signals := told }) ∧
      (∀ p, up → s.view.genset = some p →
        (p.content.condition = .stopped → cleared.enteredStopped m none kept) ∧
        (p.content.condition = .cranking → cleared.enteredStopped m (some .stop) kept) ∧
        (p.content.condition = .running → cleared.enteredCooldown m) ∧
        (p.content.condition = .fault → m = { s with gs := kept }))))

/-! ### Auxiliary outputs (chapter 5) -/

/-- The driveline mode of the gate and the active contract, the lines at each change of it, and the three settings of the unit: the
vectors and draws with the allowances and the signal, the polarities (R87, R90, R92 to R96). (Model's choices: log 3, 17.) -/
def Obligations.ModeLinesAndAllowances : Prop :=
  (∀ s : State, ∃ t, exec .modeDerivation s = .next t ∧ t.signals = s.signals.erase .modeDerivation ∧
    Within [.aux, .signals] s t ∧ t.aux.allowances = s.aux.allowances ∧
    (s.cu.gate ≠ .opened → t.aux.mode = .safe) ∧
    (∀ c, s.cu.gate = .opened → s.cu.active = some c → t.aux.mode = c.terms.mode) ∧
    (s.cu.gate = .opened → s.cu.active = none → t.aux.mode = .electric) ∧
    (t.aux.mode = s.aux.mode → t.aux = s.aux) ∧ (t.aux.mode ≠ s.aux.mode → s.redriven t)) ∧
  (∀ (m : Mode) (value : Int) (s : State), ∃ t a, exec (.writeModeVector m value) s = .next t ∧ t = { a with svc := t.svc } ∧
    s.repliesService t (.writeModeVector m value) (.answer 0x61 .done false []) ∧
    let v := BitVec.ofInt 8 value
    (s.settings.vectors.get m = v → a = s) ∧
    (s.settings.vectors.get m ≠ v →
      (∀ n, a.settings.vectors.get n = if n = m then v else s.settings.vectors.get n) ∧
      a.settings = { s.settings with vectors := a.settings.vectors } ∧ a.allowed ∧ a.aux.mode = s.aux.mode ∧
      a.signals = s.signals ++ [.auxChange] ∧ Within [.settings, .aux, .signals] s a ∧
      (s.aux.mode = m → s.redriven a) ∧ (s.aux.mode ≠ m → a.aux.lines = s.aux.lines))) ∧
  (∀ (line : Fin 8) (value : Int) (s : State), ∃ t a, exec (.writeRatedDraw line value) s = .next t ∧
    t = { a with svc := t.svc } ∧
    s.repliesService t (.writeRatedDraw line value) (.answer 0x61 .done (decide (value < 0 ∨ 63 < value)) []) ∧
    let d := (max 0 (min 63 value)).toNat
    (s.settings.draws.getD line 0 = d → a = s) ∧
    (s.settings.draws.getD line 0 ≠ d →
      a.settings = { s.settings with draws := s.settings.draws.set line d } ∧ a.allowed ∧ a.aux.mode = s.aux.mode ∧
      a.aux.lines = s.aux.lines ∧ a.signals = s.signals ++ [.auxChange] ∧ Within [.settings, .aux, .signals] s a)) ∧
  (∀ (line : Fin 8) (value : Int) (s : State), ∃ t a, exec (.writePolarity line value) s = .next t ∧
    t = { a with svc := t.svc } ∧
    s.repliesService t (.writePolarity line value) (.answer 0x61 .done (decide (value < 0 ∨ 1 < value)) []) ∧
    a.settings = { s.settings with polarity := a.settings.polarity } ∧
    (∀ i : Nat, i < 8 →
      (a.settings.polarity.getLsbD i = true ↔ if i = line then 1 ≤ value else s.settings.polarity.getLsbD i = true)) ∧
    a.aux.mode = s.aux.mode ∧ a.aux.allowances = s.aux.allowances ∧ s.redriven a ∧ Within [.settings, .aux] s a)

/-! ### Blend (chapter 6) -/

/-- The demand power, the ceilings, the target and the ramp of a run (R102 to R108): R* is the least of the four unless a cause
forces 0; R moves toward it by the slopes of a periodic run, not at all in an immediate run, and is clipped to P_dem and R_s. -/
def Obligations.TargetAndRampOfARun : Prop :=
  ∀ (x : Settings) (i : BlendInputs) (periodic : Bool),
    let r := (i.run x periodic).result
    let forced := i.contract = none ∨ i.brakeUp = false ∨ i.demand.abs3 = true ∨ i.key = false
    r.pDem = min 1023 (i.demand.m * i.demand.d * i.v / 10000) ∧
    (i.v ≤ x.vLo → r.rMotor = 0) ∧ (x.vLo < i.v → x.vHi ≤ i.v → r.rMotor = i.rMot) ∧
    (x.vLo < i.v → i.v < x.vHi → r.rMotor = i.rMot * (i.v - x.vLo) / (x.vHi - x.vLo)) ∧
    (i.contract = none → r.rStorage = 0) ∧
    (∀ c aux, i.contract = some (c, aux) → r.rStorage = min 1023 ((c + aux) * 100 / x.eta)) ∧
    r.rAdhesion = r.pDem * (if i.fade then x.hotShare else x.driveShare) / 100 ∧
    (forced → r.target = 0 ∧ r.applied = 0 ∧ (i.run x periodic).step = .none ∧ (i.run x periodic).clipped = false) ∧
    (¬ forced → r.target = min (min r.pDem r.rMotor) (min r.rStorage r.rAdhesion) ∧
      ∃ before, r.applied = min before (min r.pDem r.rStorage) ∧
        ((i.run x periodic).clipped = true ↔ r.applied < before) ∧
        (periodic = false → before = i.prev ∧ (i.run x periodic).step = (if i.prev < r.target then .held else .none)) ∧
        (periodic = true →
          (r.target = i.prev → before = i.prev ∧ (i.run x periodic).step = .none) ∧
          (i.prev < r.target → i.demand.abs1 = true ∨ i.demand.abs2 = true →
            before = i.prev ∧ (i.run x periodic).step = .held) ∧
          (i.prev < r.target → i.demand.abs1 = false → i.demand.abs2 = false →
            (r.target ≤ i.prev + x.catchUp → before = min r.target (i.prev + x.upSlope) ∧ (i.run x periodic).step = .up) ∧
            (i.prev + x.catchUp < r.target →
              before = min r.target (i.prev + 2 * x.upSlope) ∧ (i.run x periodic).step = .upDoubled)) ∧
          (r.target < i.prev →
            (i.prev ≤ r.target + x.catchUp → before = max r.target (i.prev - x.downSlope) ∧ (i.run x periodic).step = .down) ∧
            (r.target + x.catchUp < i.prev →
              before = max r.target (i.prev - 2 * x.downSlope) ∧ (i.run x periodic).step = .downDoubled)))) ∧
    r.applied ≤ r.pDem ∧ r.applied ≤ r.rStorage

/-- R110 and R111: D_r, D_f and F of a run, with D_r + D_f = D; F among the axles by their loads, or 30, 30 and 40 when no load is
known, the remainder of at most 2 kW to axle 1; each axle among its wheel ends, an odd kilowatt to the left; six powers that sum to F. -/
def Obligations.DecelerationAndFrictionAreDivided : Prop :=
  ∀ (x : Settings) (i : BlendInputs) (periodic : Bool),
    let r := (i.run x periodic).result
    let d := i.demand
    let total := d.load1 + d.load2 + d.load3
    let part := fun load other : Nat => if total = 0 then r.friction * other / 100 else r.friction * load / total
    (i.v = 0 → r.dRegen = 0) ∧ (0 < i.v → r.dRegen = r.applied * 10000 / (d.m * i.v)) ∧
    r.dRegen + r.dFriction = d.d ∧ r.applied + r.friction = r.pDem ∧
    (∃ rest, rest ≤ 2 ∧ r.axle1 = part d.load1 30 + rest) ∧ r.axle2 = part d.load2 30 ∧ r.axle3 = part d.load3 40 ∧
    r.axle1 + r.axle2 + r.axle3 = r.friction ∧
    r.wheels.r1 = r.axle1 / 2 ∧ r.wheels.l1 = r.axle1 - r.axle1 / 2 ∧ r.wheels.r2 = r.axle2 / 2 ∧
    r.wheels.l2 = r.axle2 - r.axle2 / 2 ∧ r.wheels.r3 = r.axle3 / 2 ∧ r.wheels.l3 = r.axle3 - r.axle3 / 2 ∧
    r.wheels.l1 + r.wheels.r1 + r.wheels.l2 + r.wheels.r2 + r.wheels.l3 + r.wheels.r3 = r.friction

/-- The events of the Blend Unit (R99 to R101, R112 to R115): a periodic run at each expiry, with the timer restarted; an immediate
run at its signal and when the Brake port leaves UP; a copy made absent when its port becomes UP; the fade copy. (Model's choices: log 3, 4, 16.) -/
def Obligations.BlendRunsAreTaken : Prop :=
  (∀ s : State, ∃ t, exec .blendTimerExpiry s = .next t ∧
    (s.blend.timer = .stopped → t = s) ∧
    (s.blend.timer ≠ .stopped →
      State.blendRan { s with blend := { s.blend with timer := .running s.settings.blendPeriod } } t true)) ∧
  (∀ s : State, ∃ t, exec .blendImmediateRun s = .next t ∧
    State.blendRan { s with signals := s.signals.erase .blendImmediateRun } t false) ∧
  (∀ (p : Port) (now : PortState) (s : State), ∃ t, exec (.portStateBlend p now) s = .next t ∧
    let a := { s with signals := s.signals.erase (.portStateBlend p now) }
    (now = .up → p = .traction → t = { a with blend := { s.blend with regenCopy := none } }) ∧
    (now = .up → p = .brake → t = { a with blend := { s.blend with frictionCopy := none } }) ∧
    (now ≠ .up → p = .brake → a.blendRan t false) ∧
    ((p = .pack ∨ p = .genset) ∨ (p = .traction ∧ now ≠ .up) → t = a)) ∧
  (∀ (level : Bool) (s : State), exec (.fadeCopyUpdate level) s =
    .next { s with signals := s.signals.erase (.fadeCopyUpdate level), blend := { s.blend with fade := level } })

/-! ### Wear (chapters 7 and 8) -/

/-- A hand-off of friction power heats each disc and wears each pad, its energy weighted by the temperature before it (R122, R124,
R125); an expiry of the cooling timer cools each disc toward ambient by the factor of the speed, and restarts the timer (R123). (Model's choices: log 3, 4.) -/
def Obligations.FrictionHeatsWearsAndDiscsCool : Prop :=
  (∀ (powers : Six Nat) (ms : Nat) (s : State), ∃ t, exec (.frictionHandOff powers ms) s = .next t ∧
    Within [.wear, .signals] s t ∧ t.wear.cooling = s.wear.cooling ∧
    State.wheelsHanded { s with signals := s.signals.erase (.frictionHandOff powers ms) } t ∧
    ∀ w, let e := s.wear.wheels.get w
      let f := t.wear.wheels.get w
      let energy := powers.get w * ms
      let weight := if 16 * s.settings.hotThreshold ≤ e.theta then 4 else if 16 * s.settings.warmThreshold ≤ e.theta then 2 else 1
      let capacity := s.settings.heatCapacity.get w
      f.account = min 4294967295 (e.account + (e.residue + weight * energy) / 1000) ∧
      f.residue = (e.residue + weight * energy) % 1000 ∧
      f.theta = min 16383 (e.theta + (e.heat + 16 * energy) / capacity) ∧ f.heat = (e.heat + 16 * energy) % capacity ∧
      f.life = e.life ∧ f.graded ∧ f.flagged s.settings) ∧
  (∀ s : State, ∃ t, exec .coolingTimerExpiry s = .next t ∧ Within [.wear, .signals] s t ∧
    (s.wear.cooling = .stopped → t = s) ∧
    (s.wear.cooling ≠ .stopped → t.wear.cooling = .running 1000 ∧ s.wheelsHanded t ∧
      ∀ w, let e := s.wear.wheels.get w
        let f := t.wear.wheels.get w
        let v := match s.view.traction with | some p => p.content.v | none => 0
        let k : Int := if v < 10 then 1 else if v < 100 then 2 else 3
        let ambient := 16 * s.settings.ambient
        f = { e with theta := f.theta, fade := f.fade } ∧ f.flagged s.settings ∧
        (ambient < e.theta → (f.theta : Int) = max 0 (e.theta - (e.theta - ambient) * k / 256)) ∧
        ((e.theta : Int) ≤ ambient → f.theta = e.theta)))

/-- Pack energy and start points reach their accounts (R131 to R134, R137): the weighted energy through the residue, the points as
they are, each saturating; before the load's end, and for no time or no power, nothing is added. (Model's choice: log 3.) -/
def Obligations.PackAndStartHandOffsAreCounted : Prop :=
  (∀ (pPack temp : Int) (dt : Nat) (s : State), ∃ t, exec (.packHandOff pPack temp dt) s = .next t ∧
    Within [.wear, .signals] s t ∧
    let a := { s with signals := s.signals.erase (.packHandOff pPack temp dt) }
    (s.loaded = false ∨ dt = 0 ∨ pPack = 0 → t = a) ∧
    (s.loaded = true → dt ≠ 0 → pPack ≠ 0 → a.batteryHanded t ∧
      let rate := if (s.settings.highRate : Int) < max pPack (-pPack) then 2 else 1
      let heat := if s.settings.packHot < temp then 2 else 1
      let sum := s.wear.battery.residue + rate * heat * (pPack.natAbs * dt)
      t.wear.battery.account = min 4294967295 (s.wear.battery.account + sum / 1000000) ∧
      t.wear.battery.residue = sum % 1000000 ∧ t.wear.battery.life = s.wear.battery.life)) ∧
  (∀ (points : Nat) (s : State), ∃ t, exec (.startPointsHandOff points) s = .next t ∧ Within [.wear, .signals] s t ∧
    let a := { s with signals := s.signals.erase (.startPointsHandOff points) }
    (s.loaded = false → t = a) ∧
    (s.loaded = true → a.engineHanded t ∧ t.wear.engine.account = min 65535 (s.wear.engine.account + points) ∧
      t.wear.engine.life = s.wear.engine.life))

/-- Writes to the items of a wheel end, with COPY of all six, and WEAR_RESET of its pad account (R125 to R128, R162, R163). (Model's choices: log 28, 35.) -/
def Obligations.WheelItemsAreWrittenAndReset : Prop :=
  (∀ (w : Wheel) (copy : Bool) (value : Int) (s : State), ∃ t a, exec (.writePadAccount w copy value) s = .next t ∧
    t = { a with svc := t.svc } ∧ Within [.wear, .signals, .store] s a ∧
    s.repliesService t (.writePadAccount w copy value) (.answer 0x61 .done (decide (value < 0 ∨ 4294967295 < value)) []) ∧
    s.wheelsHanded a ∧ a.wear.cooling = s.wear.cooling ∧ s.saveRequested a ∧
    ∀ x, let e := s.wear.wheels.get x
      let f := a.wear.wheels.get x
      (copy = false → x ≠ w → f = e) ∧
      (copy = true ∨ x = w → f.graded ∧
        f = { e with account := (max 0 (min 4294967295 value)).toNat, residue := 0, grade := f.grade })) ∧
  (∀ (w : Wheel) (copy : Bool) (value : Int) (s : State), ∃ t a, exec (.writePadLife w copy value) s = .next t ∧
    t = { a with svc := t.svc } ∧ Within [.wear, .signals, .store] s a ∧
    s.repliesService t (.writePadLife w copy value) (.answer 0x61 .done (decide (value < 1 ∨ 65535 < value)) []) ∧
    s.wheelsHanded a ∧ a.wear.cooling = s.wear.cooling ∧ s.saveRequested a ∧
    ∀ x, let e := s.wear.wheels.get x
      let f := a.wear.wheels.get x
      (copy = false → x ≠ w → f = e) ∧
      (copy = true ∨ x = w → f.graded ∧ f = { e with life := (max 1 (min 65535 value)).toNat, grade := f.grade })) ∧
  (∀ (w : Wheel) (copy : Bool) (value : Int) (s : State), ∃ t a, exec (.writeHeatCapacity w copy value) s = .next t ∧
    t = { a with svc := t.svc } ∧ Within [.settings, .wear, .signals] s a ∧
    s.repliesService t (.writeHeatCapacity w copy value) (.answer 0x61 .done (decide (value < 1000 ∨ 65535 < value)) []) ∧
    s.wheelsHanded a ∧ a.wear.cooling = s.wear.cooling ∧
    a.settings = { s.settings with heatCapacity := a.settings.heatCapacity } ∧
    ∀ x, let e := s.wear.wheels.get x
      let f := a.wear.wheels.get x
      let c := (max 1000 (min 65535 value)).toNat
      (copy = false → x ≠ w → f = e ∧ a.settings.heatCapacity.get x = s.settings.heatCapacity.get x) ∧
      (copy = true ∨ x = w → a.settings.heatCapacity.get x = c ∧ f.flagged s.settings ∧
        f = { e with theta := min 16383 (e.theta + e.heat / c), heat := e.heat % c, fade := f.fade })) ∧
  (∀ (value : Int) (s : State), ∃ t a, exec (.writeFadeThreshold value) s = .next t ∧
    t = { a with svc := t.svc } ∧ Within [.settings, .wear, .signals] s a ∧
    s.repliesService t (.writeFadeThreshold value) (.answer 0x61 .done (decide (value < 0 ∨ 1023 < value)) []) ∧
    s.wheelsHanded a ∧ a.wear.cooling = s.wear.cooling ∧
    a.settings = { s.settings with fadeThreshold := (max 0 (min 1023 value)).toNat } ∧
    ∀ x, (a.wear.wheels.get x).flagged a.settings ∧
      a.wear.wheels.get x = { s.wear.wheels.get x with fade := (a.wear.wheels.get x).fade }) ∧
  (∀ (n : Nat) (copy : Bool) (s : State), ∃ t a, exec (.wearResetPad n copy) s = .next t ∧ t = { a with svc := t.svc } ∧
    Within [.wear, .signals, .store] s a ∧
    (5 < n → a = s ∧ s.repliesService t (.wearResetPad n copy) (.answer 0x63 (.refused .unknownItem) false [])) ∧
    ∀ w : Wheel, n = w.index →
      s.repliesService t (.wearResetPad n copy) (.answer 0x63 .done false []) ∧
      s.wheelsHanded a ∧ a.wear.cooling = s.wear.cooling ∧ s.saveRequested a ∧
      ∀ x, let e := s.wear.wheels.get x
        let f := a.wear.wheels.get x
        (copy = false → x ≠ w → f = e) ∧
        (copy = true ∨ x = w →
          f.flagged s.settings ∧ f = { e with
            account := 0, residue := 0, grade := 0, fade := f.fade
            theta := if e.theta < 16 * s.settings.warmThreshold then (16 * s.settings.ambient).toNat else e.theta
            heat := if e.theta < 16 * s.settings.warmThreshold then 0 else e.heat }))

/-- Writes to the battery and engine accounts and lives, and their WEAR_RESETs (R132 to R136, R162, R163). -/
def Obligations.BatteryAndEngineItemsAreWrittenAndReset : Prop :=
  (∀ (value : Int) (s : State), ∃ t a, exec (.writeBatteryAccount value) s = .next t ∧ t = { a with svc := t.svc } ∧
    Within [.wear, .signals, .store] s a ∧ s.batteryHanded a ∧ s.saveRequested a ∧
    s.repliesService t (.writeBatteryAccount value) (.answer 0x61 .done (decide (value < 0 ∨ 4294967295 < value)) []) ∧
    a.wear.battery.account = (max 0 (min 4294967295 value)).toNat ∧ a.wear.battery.residue = 0 ∧
    a.wear.battery.life = s.wear.battery.life) ∧
  (∀ (value : Int) (s : State), ∃ t a, exec (.writeBatteryLife value) s = .next t ∧ t = { a with svc := t.svc } ∧
    Within [.wear, .signals, .store] s a ∧ s.batteryHanded a ∧ s.saveRequested a ∧
    s.repliesService t (.writeBatteryLife value) (.answer 0x61 .done (decide (value < 1 ∨ 100000000 < value)) []) ∧
    a.wear.battery.account = s.wear.battery.account ∧ a.wear.battery.residue = s.wear.battery.residue ∧
    a.wear.battery.life = (max 1 (min 100000000 value)).toNat) ∧
  (∀ (value : Int) (s : State), ∃ t a, exec (.writeEngineAccount value) s = .next t ∧ t = { a with svc := t.svc } ∧
    Within [.wear, .signals, .store] s a ∧ s.engineHanded a ∧ s.saveRequested a ∧
    s.repliesService t (.writeEngineAccount value) (.answer 0x61 .done (decide (value < 0 ∨ 65535 < value)) []) ∧
    a.wear.engine.account = (max 0 (min 65535 value)).toNat ∧ a.wear.engine.life = s.wear.engine.life) ∧
  (∀ (value : Int) (s : State), ∃ t a, exec (.writeEngineLife value) s = .next t ∧ t = { a with svc := t.svc } ∧
    Within [.wear, .signals, .store] s a ∧ s.engineHanded a ∧ s.saveRequested a ∧
    s.repliesService t (.writeEngineLife value) (.answer 0x61 .done (decide (value < 1 ∨ 65535 < value)) []) ∧
    a.wear.engine.account = s.wear.engine.account ∧ a.wear.engine.life = (max 1 (min 65535 value)).toNat) ∧
  (∀ s : State, ∃ t a, exec .wearResetBattery s = .next t ∧ t = { a with svc := t.svc } ∧
    Within [.wear, .signals, .store] s a ∧ s.batteryHanded a ∧ s.saveRequested a ∧
    s.repliesService t .wearResetBattery (.answer 0x63 .done false []) ∧
    a.wear.battery.account = 0 ∧ a.wear.battery.residue = 0 ∧ a.wear.battery.life = s.wear.battery.life) ∧
  (∀ s : State, ∃ t a, exec .wearResetEngine s = .next t ∧ t = { a with svc := t.svc } ∧
    Within [.wear, .signals, .store] s a ∧ s.engineHanded a ∧ s.saveRequested a ∧
    s.repliesService t .wearResetEngine (.answer 0x63 .done false []) ∧
    a.wear.engine.account = 0 ∧ a.wear.engine.life = s.wear.engine.life)

/-! ### Warnings (chapter 9) -/

/-- An owner event, taken once the load has ended: each level in turn, with the latch, the delivery, the summaries and the service
attention line of each change (R139 to R145). (Model's choice: log 3.) -/
def Obligations.LevelChangesLatchAndTell : Prop :=
  ∀ (levels : List OwnerLevel) (s : State), ∃ t, exec (.conditionLevelChange levels) s = .next t ∧
    let a := { s with signals := s.signals.erase (.conditionLevelChange levels) }
    (s.loaded = false → t = a) ∧ (s.loaded = true → a.leveledAll t levels)

/-- CLEAR_WARNINGS, and writes of delivery masks and warn grades (R140, R144 to R147, R162, R163): a clear touches the latches alone,
a mask moves the line, a warn grade forms the levels of its kind afresh. (Model's choices: log 17, 36, 37.) -/
def Obligations.WarningsAreClearedAndSet : Prop :=
  (∀ (codes : BitVec 24) (s : State), ∃ t a, exec (.clearWarnings codes) s = .next t ∧ t = { a with svc := t.svc } ∧
    (codes.getLsbD 23 = true → a = s ∧
      s.repliesService t (.clearWarnings codes) (.answer 0x62 (.refused .unknownItem) false [])) ∧
    (codes.getLsbD 23 = false → Within [.warn] s a ∧ a.warn.levels = s.warn.levels ∧ a.summarised ∧
      (∀ i : Nat, i < 24 →
        (a.warn.latched.getLsbD i = true ↔ s.warn.latched.getLsbD i = true ∧ codes.getLsbD i = false)) ∧
      s.repliesService t (.clearWarnings codes) (.answer 0x62 .done false []))) ∧
  (∀ (target : MaskTarget) (value : Int) (s : State), ∃ t a, exec (.writeDeliveryMask target value) s = .next t ∧
    t = { a with svc := t.svc } ∧ Within [.settings, .warn] s a ∧ a.warn.levels = s.warn.levels ∧
    a.warn.latched = s.warn.latched ∧ a.summarised ∧
    (target = .globalMask → a.settings = { s.settings with globalMask := decide (1 ≤ value) } ∧
      s.repliesService t (.writeDeliveryMask target value) (.answer 0x61 .done (decide (value < 0 ∨ 1 < value)) [])) ∧
    (∀ c, target = .code c → 1 ≤ c → c ≤ 23 →
      a.settings = { s.settings with masks := s.settings.masks.set (c - 1) (BitVec.ofInt 5 value) } ∧
      s.repliesService t (.writeDeliveryMask target value) (.answer 0x61 .done false []))) ∧
  (∀ (kind : WarnGradeKind) (value : Int) (s : State), ∃ t a, exec (.writeWarnGrade kind value) s = .next t ∧
    t = { a with svc := t.svc } ∧ Within [.settings, .warn, .ports] s a ∧
    s.repliesService t (.writeWarnGrade kind value) (.answer 0x61 .done (decide (value < 1 ∨ 7 < value)) []) ∧
    let g := (max 1 (min 7 value)).toNat
    match kind with
    | .pad => State.leveledAll { s with settings := { s.settings with padWarn := g } } a
        ([.l1, .r1, .l2, .r2, .l3, .r3].map fun w => .padGrade w (s.wear.wheels.get w).grade)
    | .battery => State.leveledAll { s with settings := { s.settings with batteryWarn := g } } a
        [.batteryGrade s.wear.battery.grade]
    | .engine => State.leveledAll { s with settings := { s.settings with engineWarn := g } } a
        [.engineGrade s.wear.engine.grade])

/-! ### The Service port and the store (chapter 11) -/

/-- Every request of the service controller, put in the envelope with its kind and payload, passes the checks of R160 and is read as
itself, with every field at every value the frame can hold: each WRITE_ITEM by its item's number, each value as the item travels. -/
def Obligations.ServiceRequestsRoundTrip : Prop :=
  ∀ (i : Instr) (kind : Nat) (payload : List Byte), i.wellFormed = true → encodeService i = some (kind, payload) →
    ∃ k l, checkFrame serviceLength (envelope kind payload) = .ok (k, l) ∧ decodeService k l = some i

/-- The link of the Service port (R159, R160): writes, reads, the held clock with its timeout, a reply placed while it is held, and the
STATUS_QUERY. (Model's choice: log 26.) -/
def Obligations.ServiceLinkIsServed : Prop :=
  (∀ (addr : Nat) (bytes : List Byte) (s : State), ∃ t, exec (.serviceWrite addr bytes) s = .next t ∧ t = { s with svc := t.svc } ∧
    (s.loaded = false ∨ addr ≠ s.svc.address → t.svc = { s.svc with addressAck := false, dataAck := false, lastOut := [] }) ∧
    (s.loaded = true → addr = s.svc.address →
      (∀ i, s.svc.inProcess = some i → t.svc = { s.svc with addressAck := true, dataAck := false, lastOut := [] }) ∧
      (s.svc.inProcess = none →
        t.svc = { s.svc with
          addressAck := true, dataAck := true, lastOut := [], reply := t.svc.reply, inProcess := t.svc.inProcess } ∧
        (∀ cls, checkFrame serviceLength bytes = .error cls →
          t.svc.reply = some (.frameError cls) ∧ t.svc.inProcess = none) ∧
        (∀ kind payload, checkFrame serviceLength bytes = .ok (kind, payload) →
          (∀ i, decodeService kind payload = some i → t.svc.reply = none ∧ t.svc.inProcess = some i) ∧
          (decodeService kind payload = none →
            t.svc.reply = some (.answer 0x01 .done false []) ∧ t.svc.inProcess = none))))) ∧
  (∀ (addr n : Nat) (s : State), ∃ t, exec (.serviceRead addr n) s = .next t ∧ t = { s with svc := t.svc } ∧
    (s.loaded = false ∨ addr ≠ s.svc.address → t.svc = { s.svc with addressAck := false, dataAck := false, lastOut := [] }) ∧
    (s.loaded = true → addr = s.svc.address →
      (∀ r, s.svc.reply = some r → carries t.svc.lastOut (r.frame false) n ∧
        t.svc = { s.svc with
          addressAck := true, lastOut := t.svc.lastOut
          reply := if (r.frame false).length ≤ n then none else some r }) ∧
      (∀ i, s.svc.reply = none → s.svc.inProcess = some i →
        t.svc = { s.svc with addressAck := true, lastOut := [], hold := some n, holdTimer := .running 2 }) ∧
      (s.svc.reply = none → s.svc.inProcess = none →
        carries t.svc.lastOut
          (envelope 0x7F [1#8, match s.cu.gate with | .blocked => 0#8 | .opened => 1#8 | .safe => 2#8]) n ∧
        t.svc = { s.svc with addressAck := true, lastOut := t.svc.lastOut }))) ∧
  (∀ s : State, ∃ t, exec .serviceReadHoldTimeout s = .next t ∧ t = { s with svc := t.svc } ∧
    (s.svc.hold = none ∨ s.svc.holdTimer = .stopped → t = s) ∧
    (∀ n, s.svc.hold = some n → s.svc.holdTimer ≠ .stopped →
      carries t.svc.lastOut (envelope 0x7D []) n ∧
      t.svc = { s.svc with addressAck := true, lastOut := t.svc.lastOut, hold := none, holdTimer := .stopped })) ∧
  (∀ (v : ServicePort) (request : Instr) (r : Reply) (n : Nat), v.inProcess = some request → v.hold = some n →
    carries (v.place request r).lastOut (r.frame false) n ∧
    v.place request r = { v with
      inProcess := none, hold := none, holdTimer := .stopped, lastOut := (v.place request r).lastOut
      reply := if (r.frame false).length ≤ n then none else some r }) ∧
  (∀ s : State, ∃ t, exec .serviceStatusQuery s = .next t ∧ t = { s with svc := t.svc } ∧
    s.repliesService t .serviceStatusQuery (.answer 0x02 .status false
      [match s.cu.gate with | .blocked => 0#8 | .opened => 1#8 | .safe => 2#8,
        BitVec.ofNat 8 (match s.cu.active with | some c => c.number | none => 0),
        BitVec.ofNat 8 (match s.cu.proposal with | some c => c.number | none => 0),
        match s.store.phase with | .idle => 0#8 | .writingSettings _ => 1#8 | .writingWear _ => 1#8 | .failed => 2#8,
        BitVec.ofNat 8 ((if s.store.settingsBad then 1 else 0) + (if s.store.wearBad then 2 else 0) +
          (if s.store.pendingSave then 4 else 0) + (if s.quiet then 8 else 0)),
        match s.gs.state with
        | .unknown => 0#8 | .stopped => 1#8 | .cranking => 2#8 | .resting => 3#8
        | .warming => 4#8 | .online => 5#8 | .cooldown => 6#8 | .lockedOut => 7#8]))

/-- READ_ITEM, WRITE_ITEM and SET_QUIET_ZONE (R161, R162, R164): the numbers the map assigns and what each reads, the refusals, a
written setting read back within its range, each range written out, with every other item as it was, an item with a row of its own
taken as that row. (Model's choices: log 17, 19.) -/
def Obligations.ItemsAreReadAndWritten : Prop :=
  (∀ (n : Nat) (s : State), (∃ v, s.readItem n = some v) ↔ itemAssigned n) ∧
  (∀ s : State, s.itemsShown) ∧
  (∀ (n : Nat) (s : State), ∃ t, exec (.readItem n) s = .next t ∧
    (¬ itemAssigned n → t = { s with svc := t.svc } ∧
      s.repliesService t (.readItem n) (.answer 0x60 (.refused .unknownItem) false [])) ∧
    (∀ v, s.readItem n = some v → s.repliesService t (.readItem n) (.answer 0x60 .done false (le32 v)) ∧
      (n ≠ 0x209 → t = { s with svc := t.svc }) ∧
      (n = 0x209 → t = { s with svc := t.svc, gs := { s.gs with activity := ⟨false, false, false, false⟩ } }))) ∧
  (∀ (n : Nat) (copy : Bool) (value : Int) (s : State), ∃ t, exec (.writeItem n copy value) s = .next t ∧
    (¬ itemAssigned n → t = { s with svc := t.svc } ∧
      s.repliesService t (.writeItem n copy value) (.answer 0x61 (.refused .unknownItem) false [])) ∧
    (itemAssigned n → ¬ itemWritable n → t = { s with svc := t.svc } ∧
      s.repliesService t (.writeItem n copy value) (.answer 0x61 (.refused .readOnly) false [])) ∧
    (itemWritable n → writeCommand n copy value ≠ .writeItem n copy value →
      (∃ clamped, s.repliesService t (.writeItem n copy value) (.answer 0x61 .done clamped [])) ∧
      ∀ u, exec (writeCommand n copy value) s = .next u → t = { u with svc := t.svc }) ∧
    (itemWritable n → writeCommand n copy value = .writeItem n copy value → s.settingsLawful →
      ∃ v, t = { s with settings := t.settings, svc := t.svc } ∧ t.readItem n = some v ∧
        (∀ m, m ≠ n → t.readItem m = s.readItem m) ∧
        s.repliesService t (.writeItem n copy value) (.answer 0x61 .done (decide (v ≠ value)) []) ∧
        (n = 0x540 ∨ n = 0x5B0 ∨ ∃ lo hi, plainRange n lo hi ∧ v = max lo (min hi value)) ∧
        (n = 0x540 → v = if value ≤ 15 then 10 else if value ≤ 30 then 20 else 40) ∧
        (n = 0x5B0 → v = max 20 (min 500 value) / 10 * 10))) ∧
  (∀ (on : Bool) (s : State), ∃ t, exec (.setQuietZone on) s = .next t ∧
    t = { s with quiet := on, signals := t.signals, svc := t.svc } ∧
    s.repliesService t (.setQuietZone on) (.answer 0x66 .done false []) ∧
    (s.quiet = on → t.signals = s.signals) ∧
    (s.quiet ≠ on → t.signals = s.signals ++ [.quietZoneChange, .quietZoneSequencer on]))

/-- COMMIT, the wear-save timer's expiry and the completion of a write (R163, R165, R166): the state, the marks and what the Warning
Unit is told of them, the region written whole, and a save that waited. (Model's choices: log 4, 22.) -/
def Obligations.StoreWritesBeginAndEnd : Prop :=
  (∀ s : State, ∃ t, exec .commit s = .next t ∧
    (s.store.phase = .idle ∨ s.store.phase = .failed →
      t = { s with svc := t.svc, store := { s.store with phase := .writingSettings s.settings } } ∧
      s.repliesService t .commit (.answer 0x6A .done false [])) ∧
    (s.store.phase ≠ .idle → s.store.phase ≠ .failed → t = { s with svc := t.svc } ∧
      s.repliesService t .commit (.answer 0x6A (.refused .busy) false []))) ∧
  (∀ s : State, ∃ t, exec .wearSaveTimerExpiry s = .next t ∧ Within [.store] s t ∧
    (s.store.saveTimer = .stopped → t = s) ∧
    (s.store.saveTimer ≠ .stopped →
      State.saveRequested { s with store := { s.store with saveTimer := .running 600000 } } t)) ∧
  (∀ (ok : Bool) (s : State), ∃ t, exec (.storeWriteCompletion ok) s = .next t ∧
    Within [.store, .signals, .freeCount] s t ∧
    (s.store.phase = .idle ∨ s.store.phase = .failed → t = s) ∧
    (s.store.phase ≠ .idle → s.store.phase ≠ .failed →
      t.store.pendingSave = false ∧ t.store.saveTimer = s.store.saveTimer ∧
      (s.store.pendingSave = true → ∃ x : WearContents, x.takenFrom s.wear ∧ t.store.phase = .writingWear x) ∧
      (s.store.pendingSave = false → t.store.phase = if ok then .idle else .failed)) ∧
    (∀ x, s.store.phase = .writingSettings x →
      t.store.settingsBad = (!ok) ∧ t.store.wearBad = s.store.wearBad ∧ t.store.wearImage = s.store.wearImage ∧
      (ok = true → t.store.settingsImage.contents = x ∧ settingsImageGood t.store.settingsImage = true) ∧
      t.signals = s.signals ++ (if s.store.settingsBad = (!ok) then [] else [.conditionLevelChange [.settingsBad (!ok)]])) ∧
    (∀ x, s.store.phase = .writingWear x →
      t.store.wearBad = (!ok) ∧ t.store.settingsBad = s.store.settingsBad ∧
      t.store.settingsImage = s.store.settingsImage ∧
      (ok = true → t.store.wearImage.contents = x ∧ wearImageGood t.store.wearImage = true) ∧
      t.signals = s.signals ++ (if s.store.wearBad = (!ok) then [] else [.conditionLevelChange [.wearBad (!ok)]])))

/-! ### Invariants -/

/-- Every step keeps the Contract Unit lawful (R36, R39 to R41): nothing of the protocol while the gate is not OPEN; the active
contract and the pending proposal in balance, their numbers from 1 to 255 and different. -/
def Obligations.EveryStepKeepsTheContractsLawful : Prop :=
  ∀ s t : State, s.cu.restsUnlessOpen → s.cu.lawful → step s = .next t → t.cu.restsUnlessOpen ∧ t.cu.lawful

/-- Every step keeps the other units lawful: the sequencer's timers in their states, the lines and allowances, the blend result, the
wear figures, the summaries and the line, one notice of a class on a queue, every setting within its range. (Model's choice: log 19.) -/
def Obligations.EveryStepKeepsTheUnitsLawful : Prop :=
  ∀ s t : State, step s = .next t →
    (s.gs.lawful → t.gs.lawful) ∧
    (s.auxLawful → t.auxLawful) ∧ (s.blend.result.lawful → t.blend.result.lawful) ∧ (s.wear.lawful → t.wear.lawful) ∧
    (s.warningsLawful → t.warningsLawful) ∧ (s.queuesLawful → t.queuesLawful) ∧ (s.settingsLawful → t.settingsLawful)
end

