-- ==== Sys2Proof/Laws/State.lean ====
section
/-! SUPPORT. The named updates of State, field by field: what each leaves alone and what it writes, true by unfolding. -/

namespace Sys2Proof.Machine

@[simp] theorem State.raise_key (s : State) (c : Instr) : (s.raise c).key = s.key := rfl
@[simp] theorem State.raise_loaded (s : State) (c : Instr) : (s.raise c).loaded = s.loaded := rfl
@[simp] theorem State.raise_quiet (s : State) (c : Instr) : (s.raise c).quiet = s.quiet := rfl
@[simp] theorem State.raise_ms (s : State) (c : Instr) : (s.raise c).ms = s.ms := rfl
@[simp] theorem State.raise_ports (s : State) (c : Instr) : (s.raise c).ports = s.ports := rfl
@[simp] theorem State.raise_view (s : State) (c : Instr) : (s.raise c).view = s.view := rfl
@[simp] theorem State.raise_cu (s : State) (c : Instr) : (s.raise c).cu = s.cu := rfl
@[simp] theorem State.raise_gs (s : State) (c : Instr) : (s.raise c).gs = s.gs := rfl
@[simp] theorem State.raise_aux (s : State) (c : Instr) : (s.raise c).aux = s.aux := rfl
@[simp] theorem State.raise_blend (s : State) (c : Instr) : (s.raise c).blend = s.blend := rfl
@[simp] theorem State.raise_wear (s : State) (c : Instr) : (s.raise c).wear = s.wear := rfl
@[simp] theorem State.raise_warn (s : State) (c : Instr) : (s.raise c).warn = s.warn := rfl
@[simp] theorem State.raise_svc (s : State) (c : Instr) : (s.raise c).svc = s.svc := rfl
@[simp] theorem State.raise_settings (s : State) (c : Instr) : (s.raise c).settings = s.settings := rfl
@[simp] theorem State.raise_store (s : State) (c : Instr) : (s.raise c).store = s.store := rfl
@[simp] theorem State.raise_freeCount (s : State) (c : Instr) : (s.raise c).freeCount = s.freeCount := rfl
@[simp] theorem State.raise_pending (s : State) (c : Instr) : (s.raise c).pending = s.pending := rfl

@[simp] theorem State.consume_key (s : State) (c : Instr) : (s.consume c).key = s.key := rfl
@[simp] theorem State.consume_loaded (s : State) (c : Instr) : (s.consume c).loaded = s.loaded := rfl
@[simp] theorem State.consume_quiet (s : State) (c : Instr) : (s.consume c).quiet = s.quiet := rfl
@[simp] theorem State.consume_ms (s : State) (c : Instr) : (s.consume c).ms = s.ms := rfl
@[simp] theorem State.consume_ports (s : State) (c : Instr) : (s.consume c).ports = s.ports := rfl
@[simp] theorem State.consume_view (s : State) (c : Instr) : (s.consume c).view = s.view := rfl
@[simp] theorem State.consume_cu (s : State) (c : Instr) : (s.consume c).cu = s.cu := rfl
@[simp] theorem State.consume_gs (s : State) (c : Instr) : (s.consume c).gs = s.gs := rfl
@[simp] theorem State.consume_aux (s : State) (c : Instr) : (s.consume c).aux = s.aux := rfl
@[simp] theorem State.consume_blend (s : State) (c : Instr) : (s.consume c).blend = s.blend := rfl
@[simp] theorem State.consume_wear (s : State) (c : Instr) : (s.consume c).wear = s.wear := rfl
@[simp] theorem State.consume_warn (s : State) (c : Instr) : (s.consume c).warn = s.warn := rfl
@[simp] theorem State.consume_svc (s : State) (c : Instr) : (s.consume c).svc = s.svc := rfl
@[simp] theorem State.consume_settings (s : State) (c : Instr) : (s.consume c).settings = s.settings := rfl
@[simp] theorem State.consume_store (s : State) (c : Instr) : (s.consume c).store = s.store := rfl
@[simp] theorem State.consume_freeCount (s : State) (c : Instr) : (s.consume c).freeCount = s.freeCount := rfl
@[simp] theorem State.consume_pending (s : State) (c : Instr) : (s.consume c).pending = s.pending := rfl

@[simp] theorem State.onPort_key (s : State) (p : Port) (f : PartnerPort → PartnerPort) : (s.onPort p f).key = s.key := rfl
@[simp] theorem State.onPort_loaded (s : State) (p : Port) (f : PartnerPort → PartnerPort) : (s.onPort p f).loaded = s.loaded := rfl
@[simp] theorem State.onPort_quiet (s : State) (p : Port) (f : PartnerPort → PartnerPort) : (s.onPort p f).quiet = s.quiet := rfl
@[simp] theorem State.onPort_ms (s : State) (p : Port) (f : PartnerPort → PartnerPort) : (s.onPort p f).ms = s.ms := rfl
@[simp] theorem State.onPort_view (s : State) (p : Port) (f : PartnerPort → PartnerPort) : (s.onPort p f).view = s.view := rfl
@[simp] theorem State.onPort_cu (s : State) (p : Port) (f : PartnerPort → PartnerPort) : (s.onPort p f).cu = s.cu := rfl
@[simp] theorem State.onPort_gs (s : State) (p : Port) (f : PartnerPort → PartnerPort) : (s.onPort p f).gs = s.gs := rfl
@[simp] theorem State.onPort_aux (s : State) (p : Port) (f : PartnerPort → PartnerPort) : (s.onPort p f).aux = s.aux := rfl
@[simp] theorem State.onPort_blend (s : State) (p : Port) (f : PartnerPort → PartnerPort) : (s.onPort p f).blend = s.blend := rfl
@[simp] theorem State.onPort_wear (s : State) (p : Port) (f : PartnerPort → PartnerPort) : (s.onPort p f).wear = s.wear := rfl
@[simp] theorem State.onPort_warn (s : State) (p : Port) (f : PartnerPort → PartnerPort) : (s.onPort p f).warn = s.warn := rfl
@[simp] theorem State.onPort_svc (s : State) (p : Port) (f : PartnerPort → PartnerPort) : (s.onPort p f).svc = s.svc := rfl
@[simp] theorem State.onPort_settings (s : State) (p : Port) (f : PartnerPort → PartnerPort) : (s.onPort p f).settings = s.settings := rfl
@[simp] theorem State.onPort_store (s : State) (p : Port) (f : PartnerPort → PartnerPort) : (s.onPort p f).store = s.store := rfl
@[simp] theorem State.onPort_signals (s : State) (p : Port) (f : PartnerPort → PartnerPort) : (s.onPort p f).signals = s.signals := rfl
@[simp] theorem State.onPort_freeCount (s : State) (p : Port) (f : PartnerPort → PartnerPort) : (s.onPort p f).freeCount = s.freeCount := rfl
@[simp] theorem State.onPort_pending (s : State) (p : Port) (f : PartnerPort → PartnerPort) : (s.onPort p f).pending = s.pending := rfl

@[simp] theorem State.submit_key (s : State) (p : Port) (n : Notice) : (s.submit p n).key = s.key := rfl
@[simp] theorem State.submit_loaded (s : State) (p : Port) (n : Notice) : (s.submit p n).loaded = s.loaded := rfl
@[simp] theorem State.submit_quiet (s : State) (p : Port) (n : Notice) : (s.submit p n).quiet = s.quiet := rfl
@[simp] theorem State.submit_ms (s : State) (p : Port) (n : Notice) : (s.submit p n).ms = s.ms := rfl
@[simp] theorem State.submit_view (s : State) (p : Port) (n : Notice) : (s.submit p n).view = s.view := rfl
@[simp] theorem State.submit_cu (s : State) (p : Port) (n : Notice) : (s.submit p n).cu = s.cu := rfl
@[simp] theorem State.submit_gs (s : State) (p : Port) (n : Notice) : (s.submit p n).gs = s.gs := rfl
@[simp] theorem State.submit_aux (s : State) (p : Port) (n : Notice) : (s.submit p n).aux = s.aux := rfl
@[simp] theorem State.submit_blend (s : State) (p : Port) (n : Notice) : (s.submit p n).blend = s.blend := rfl
@[simp] theorem State.submit_wear (s : State) (p : Port) (n : Notice) : (s.submit p n).wear = s.wear := rfl
@[simp] theorem State.submit_warn (s : State) (p : Port) (n : Notice) : (s.submit p n).warn = s.warn := rfl
@[simp] theorem State.submit_svc (s : State) (p : Port) (n : Notice) : (s.submit p n).svc = s.svc := rfl
@[simp] theorem State.submit_settings (s : State) (p : Port) (n : Notice) : (s.submit p n).settings = s.settings := rfl
@[simp] theorem State.submit_store (s : State) (p : Port) (n : Notice) : (s.submit p n).store = s.store := rfl
@[simp] theorem State.submit_signals (s : State) (p : Port) (n : Notice) : (s.submit p n).signals = s.signals := rfl
@[simp] theorem State.submit_freeCount (s : State) (p : Port) (n : Notice) : (s.submit p n).freeCount = s.freeCount := rfl
@[simp] theorem State.submit_pending (s : State) (p : Port) (n : Notice) : (s.submit p n).pending = s.pending := rfl

@[simp] theorem State.answer_key (s : State) (p : Port) (i : Instr) (k : Nat) (o : Answer) (b : Bool) (l : List Byte) : (s.answer p i k o b l).key = s.key := rfl
@[simp] theorem State.answer_loaded (s : State) (p : Port) (i : Instr) (k : Nat) (o : Answer) (b : Bool) (l : List Byte) : (s.answer p i k o b l).loaded = s.loaded := rfl
@[simp] theorem State.answer_quiet (s : State) (p : Port) (i : Instr) (k : Nat) (o : Answer) (b : Bool) (l : List Byte) : (s.answer p i k o b l).quiet = s.quiet := rfl
@[simp] theorem State.answer_ms (s : State) (p : Port) (i : Instr) (k : Nat) (o : Answer) (b : Bool) (l : List Byte) : (s.answer p i k o b l).ms = s.ms := rfl
@[simp] theorem State.answer_view (s : State) (p : Port) (i : Instr) (k : Nat) (o : Answer) (b : Bool) (l : List Byte) : (s.answer p i k o b l).view = s.view := rfl
@[simp] theorem State.answer_cu (s : State) (p : Port) (i : Instr) (k : Nat) (o : Answer) (b : Bool) (l : List Byte) : (s.answer p i k o b l).cu = s.cu := rfl
@[simp] theorem State.answer_gs (s : State) (p : Port) (i : Instr) (k : Nat) (o : Answer) (b : Bool) (l : List Byte) : (s.answer p i k o b l).gs = s.gs := rfl
@[simp] theorem State.answer_aux (s : State) (p : Port) (i : Instr) (k : Nat) (o : Answer) (b : Bool) (l : List Byte) : (s.answer p i k o b l).aux = s.aux := rfl
@[simp] theorem State.answer_blend (s : State) (p : Port) (i : Instr) (k : Nat) (o : Answer) (b : Bool) (l : List Byte) : (s.answer p i k o b l).blend = s.blend := rfl
@[simp] theorem State.answer_wear (s : State) (p : Port) (i : Instr) (k : Nat) (o : Answer) (b : Bool) (l : List Byte) : (s.answer p i k o b l).wear = s.wear := rfl
@[simp] theorem State.answer_warn (s : State) (p : Port) (i : Instr) (k : Nat) (o : Answer) (b : Bool) (l : List Byte) : (s.answer p i k o b l).warn = s.warn := rfl
@[simp] theorem State.answer_svc (s : State) (p : Port) (i : Instr) (k : Nat) (o : Answer) (b : Bool) (l : List Byte) : (s.answer p i k o b l).svc = s.svc := rfl
@[simp] theorem State.answer_settings (s : State) (p : Port) (i : Instr) (k : Nat) (o : Answer) (b : Bool) (l : List Byte) : (s.answer p i k o b l).settings = s.settings := rfl
@[simp] theorem State.answer_store (s : State) (p : Port) (i : Instr) (k : Nat) (o : Answer) (b : Bool) (l : List Byte) : (s.answer p i k o b l).store = s.store := rfl
@[simp] theorem State.answer_signals (s : State) (p : Port) (i : Instr) (k : Nat) (o : Answer) (b : Bool) (l : List Byte) : (s.answer p i k o b l).signals = s.signals := rfl
@[simp] theorem State.answer_freeCount (s : State) (p : Port) (i : Instr) (k : Nat) (o : Answer) (b : Bool) (l : List Byte) : (s.answer p i k o b l).freeCount = s.freeCount := rfl
@[simp] theorem State.answer_pending (s : State) (p : Port) (i : Instr) (k : Nat) (o : Answer) (b : Bool) (l : List Byte) : (s.answer p i k o b l).pending = s.pending := rfl

@[simp] theorem State.serviceAnswer_key (s : State) (i : Instr) (k : Nat) (o : Answer) (b : Bool) (l : List Byte) : (s.serviceAnswer i k o b l).key = s.key := rfl
@[simp] theorem State.serviceAnswer_loaded (s : State) (i : Instr) (k : Nat) (o : Answer) (b : Bool) (l : List Byte) : (s.serviceAnswer i k o b l).loaded = s.loaded := rfl
@[simp] theorem State.serviceAnswer_quiet (s : State) (i : Instr) (k : Nat) (o : Answer) (b : Bool) (l : List Byte) : (s.serviceAnswer i k o b l).quiet = s.quiet := rfl
@[simp] theorem State.serviceAnswer_ms (s : State) (i : Instr) (k : Nat) (o : Answer) (b : Bool) (l : List Byte) : (s.serviceAnswer i k o b l).ms = s.ms := rfl
@[simp] theorem State.serviceAnswer_ports (s : State) (i : Instr) (k : Nat) (o : Answer) (b : Bool) (l : List Byte) : (s.serviceAnswer i k o b l).ports = s.ports := rfl
@[simp] theorem State.serviceAnswer_view (s : State) (i : Instr) (k : Nat) (o : Answer) (b : Bool) (l : List Byte) : (s.serviceAnswer i k o b l).view = s.view := rfl
@[simp] theorem State.serviceAnswer_cu (s : State) (i : Instr) (k : Nat) (o : Answer) (b : Bool) (l : List Byte) : (s.serviceAnswer i k o b l).cu = s.cu := rfl
@[simp] theorem State.serviceAnswer_gs (s : State) (i : Instr) (k : Nat) (o : Answer) (b : Bool) (l : List Byte) : (s.serviceAnswer i k o b l).gs = s.gs := rfl
@[simp] theorem State.serviceAnswer_aux (s : State) (i : Instr) (k : Nat) (o : Answer) (b : Bool) (l : List Byte) : (s.serviceAnswer i k o b l).aux = s.aux := rfl
@[simp] theorem State.serviceAnswer_blend (s : State) (i : Instr) (k : Nat) (o : Answer) (b : Bool) (l : List Byte) : (s.serviceAnswer i k o b l).blend = s.blend := rfl
@[simp] theorem State.serviceAnswer_wear (s : State) (i : Instr) (k : Nat) (o : Answer) (b : Bool) (l : List Byte) : (s.serviceAnswer i k o b l).wear = s.wear := rfl
@[simp] theorem State.serviceAnswer_warn (s : State) (i : Instr) (k : Nat) (o : Answer) (b : Bool) (l : List Byte) : (s.serviceAnswer i k o b l).warn = s.warn := rfl
@[simp] theorem State.serviceAnswer_settings (s : State) (i : Instr) (k : Nat) (o : Answer) (b : Bool) (l : List Byte) : (s.serviceAnswer i k o b l).settings = s.settings := rfl
@[simp] theorem State.serviceAnswer_store (s : State) (i : Instr) (k : Nat) (o : Answer) (b : Bool) (l : List Byte) : (s.serviceAnswer i k o b l).store = s.store := rfl
@[simp] theorem State.serviceAnswer_signals (s : State) (i : Instr) (k : Nat) (o : Answer) (b : Bool) (l : List Byte) : (s.serviceAnswer i k o b l).signals = s.signals := rfl
@[simp] theorem State.serviceAnswer_freeCount (s : State) (i : Instr) (k : Nat) (o : Answer) (b : Bool) (l : List Byte) : (s.serviceAnswer i k o b l).freeCount = s.freeCount := rfl
@[simp] theorem State.serviceAnswer_pending (s : State) (i : Instr) (k : Nat) (o : Answer) (b : Bool) (l : List Byte) : (s.serviceAnswer i k o b l).pending = s.pending := rfl

@[simp] theorem State.serviceDone_key (s : State) (i : Instr) (k : Nat) : (s.serviceDone i k).key = s.key := rfl
@[simp] theorem State.serviceDone_loaded (s : State) (i : Instr) (k : Nat) : (s.serviceDone i k).loaded = s.loaded := rfl
@[simp] theorem State.serviceDone_quiet (s : State) (i : Instr) (k : Nat) : (s.serviceDone i k).quiet = s.quiet := rfl
@[simp] theorem State.serviceDone_ms (s : State) (i : Instr) (k : Nat) : (s.serviceDone i k).ms = s.ms := rfl
@[simp] theorem State.serviceDone_ports (s : State) (i : Instr) (k : Nat) : (s.serviceDone i k).ports = s.ports := rfl
@[simp] theorem State.serviceDone_view (s : State) (i : Instr) (k : Nat) : (s.serviceDone i k).view = s.view := rfl
@[simp] theorem State.serviceDone_cu (s : State) (i : Instr) (k : Nat) : (s.serviceDone i k).cu = s.cu := rfl
@[simp] theorem State.serviceDone_gs (s : State) (i : Instr) (k : Nat) : (s.serviceDone i k).gs = s.gs := rfl
@[simp] theorem State.serviceDone_aux (s : State) (i : Instr) (k : Nat) : (s.serviceDone i k).aux = s.aux := rfl
@[simp] theorem State.serviceDone_blend (s : State) (i : Instr) (k : Nat) : (s.serviceDone i k).blend = s.blend := rfl
@[simp] theorem State.serviceDone_wear (s : State) (i : Instr) (k : Nat) : (s.serviceDone i k).wear = s.wear := rfl
@[simp] theorem State.serviceDone_warn (s : State) (i : Instr) (k : Nat) : (s.serviceDone i k).warn = s.warn := rfl
@[simp] theorem State.serviceDone_settings (s : State) (i : Instr) (k : Nat) : (s.serviceDone i k).settings = s.settings := rfl
@[simp] theorem State.serviceDone_store (s : State) (i : Instr) (k : Nat) : (s.serviceDone i k).store = s.store := rfl
@[simp] theorem State.serviceDone_signals (s : State) (i : Instr) (k : Nat) : (s.serviceDone i k).signals = s.signals := rfl
@[simp] theorem State.serviceDone_freeCount (s : State) (i : Instr) (k : Nat) : (s.serviceDone i k).freeCount = s.freeCount := rfl
@[simp] theorem State.serviceDone_pending (s : State) (i : Instr) (k : Nat) : (s.serviceDone i k).pending = s.pending := rfl

@[simp] theorem State.writeDone_key (s : State) (i : Instr) (b : Bool) : (s.writeDone i b).key = s.key := rfl
@[simp] theorem State.writeDone_loaded (s : State) (i : Instr) (b : Bool) : (s.writeDone i b).loaded = s.loaded := rfl
@[simp] theorem State.writeDone_quiet (s : State) (i : Instr) (b : Bool) : (s.writeDone i b).quiet = s.quiet := rfl
@[simp] theorem State.writeDone_ms (s : State) (i : Instr) (b : Bool) : (s.writeDone i b).ms = s.ms := rfl
@[simp] theorem State.writeDone_ports (s : State) (i : Instr) (b : Bool) : (s.writeDone i b).ports = s.ports := rfl
@[simp] theorem State.writeDone_view (s : State) (i : Instr) (b : Bool) : (s.writeDone i b).view = s.view := rfl
@[simp] theorem State.writeDone_cu (s : State) (i : Instr) (b : Bool) : (s.writeDone i b).cu = s.cu := rfl
@[simp] theorem State.writeDone_gs (s : State) (i : Instr) (b : Bool) : (s.writeDone i b).gs = s.gs := rfl
@[simp] theorem State.writeDone_aux (s : State) (i : Instr) (b : Bool) : (s.writeDone i b).aux = s.aux := rfl
@[simp] theorem State.writeDone_blend (s : State) (i : Instr) (b : Bool) : (s.writeDone i b).blend = s.blend := rfl
@[simp] theorem State.writeDone_wear (s : State) (i : Instr) (b : Bool) : (s.writeDone i b).wear = s.wear := rfl
@[simp] theorem State.writeDone_warn (s : State) (i : Instr) (b : Bool) : (s.writeDone i b).warn = s.warn := rfl
@[simp] theorem State.writeDone_settings (s : State) (i : Instr) (b : Bool) : (s.writeDone i b).settings = s.settings := rfl
@[simp] theorem State.writeDone_store (s : State) (i : Instr) (b : Bool) : (s.writeDone i b).store = s.store := rfl
@[simp] theorem State.writeDone_signals (s : State) (i : Instr) (b : Bool) : (s.writeDone i b).signals = s.signals := rfl
@[simp] theorem State.writeDone_freeCount (s : State) (i : Instr) (b : Bool) : (s.writeDone i b).freeCount = s.freeCount := rfl
@[simp] theorem State.writeDone_pending (s : State) (i : Instr) (b : Bool) : (s.writeDone i b).pending = s.pending := rfl

@[simp] theorem State.onCu_key (s : State) (f : ContractUnit → ContractUnit) : (s.onCu f).key = s.key := rfl
@[simp] theorem State.onCu_loaded (s : State) (f : ContractUnit → ContractUnit) : (s.onCu f).loaded = s.loaded := rfl
@[simp] theorem State.onCu_quiet (s : State) (f : ContractUnit → ContractUnit) : (s.onCu f).quiet = s.quiet := rfl
@[simp] theorem State.onCu_ms (s : State) (f : ContractUnit → ContractUnit) : (s.onCu f).ms = s.ms := rfl
@[simp] theorem State.onCu_ports (s : State) (f : ContractUnit → ContractUnit) : (s.onCu f).ports = s.ports := rfl
@[simp] theorem State.onCu_view (s : State) (f : ContractUnit → ContractUnit) : (s.onCu f).view = s.view := rfl
@[simp] theorem State.onCu_gs (s : State) (f : ContractUnit → ContractUnit) : (s.onCu f).gs = s.gs := rfl
@[simp] theorem State.onCu_aux (s : State) (f : ContractUnit → ContractUnit) : (s.onCu f).aux = s.aux := rfl
@[simp] theorem State.onCu_blend (s : State) (f : ContractUnit → ContractUnit) : (s.onCu f).blend = s.blend := rfl
@[simp] theorem State.onCu_wear (s : State) (f : ContractUnit → ContractUnit) : (s.onCu f).wear = s.wear := rfl
@[simp] theorem State.onCu_warn (s : State) (f : ContractUnit → ContractUnit) : (s.onCu f).warn = s.warn := rfl
@[simp] theorem State.onCu_svc (s : State) (f : ContractUnit → ContractUnit) : (s.onCu f).svc = s.svc := rfl
@[simp] theorem State.onCu_settings (s : State) (f : ContractUnit → ContractUnit) : (s.onCu f).settings = s.settings := rfl
@[simp] theorem State.onCu_store (s : State) (f : ContractUnit → ContractUnit) : (s.onCu f).store = s.store := rfl
@[simp] theorem State.onCu_signals (s : State) (f : ContractUnit → ContractUnit) : (s.onCu f).signals = s.signals := rfl
@[simp] theorem State.onCu_freeCount (s : State) (f : ContractUnit → ContractUnit) : (s.onCu f).freeCount = s.freeCount := rfl
@[simp] theorem State.onCu_pending (s : State) (f : ContractUnit → ContractUnit) : (s.onCu f).pending = s.pending := rfl

@[simp] theorem State.onGs_key (s : State) (f : Sequencer → Sequencer) : (s.onGs f).key = s.key := rfl
@[simp] theorem State.onGs_loaded (s : State) (f : Sequencer → Sequencer) : (s.onGs f).loaded = s.loaded := rfl
@[simp] theorem State.onGs_quiet (s : State) (f : Sequencer → Sequencer) : (s.onGs f).quiet = s.quiet := rfl
@[simp] theorem State.onGs_ms (s : State) (f : Sequencer → Sequencer) : (s.onGs f).ms = s.ms := rfl
@[simp] theorem State.onGs_ports (s : State) (f : Sequencer → Sequencer) : (s.onGs f).ports = s.ports := rfl
@[simp] theorem State.onGs_view (s : State) (f : Sequencer → Sequencer) : (s.onGs f).view = s.view := rfl
@[simp] theorem State.onGs_cu (s : State) (f : Sequencer → Sequencer) : (s.onGs f).cu = s.cu := rfl
@[simp] theorem State.onGs_aux (s : State) (f : Sequencer → Sequencer) : (s.onGs f).aux = s.aux := rfl
@[simp] theorem State.onGs_blend (s : State) (f : Sequencer → Sequencer) : (s.onGs f).blend = s.blend := rfl
@[simp] theorem State.onGs_wear (s : State) (f : Sequencer → Sequencer) : (s.onGs f).wear = s.wear := rfl
@[simp] theorem State.onGs_warn (s : State) (f : Sequencer → Sequencer) : (s.onGs f).warn = s.warn := rfl
@[simp] theorem State.onGs_svc (s : State) (f : Sequencer → Sequencer) : (s.onGs f).svc = s.svc := rfl
@[simp] theorem State.onGs_settings (s : State) (f : Sequencer → Sequencer) : (s.onGs f).settings = s.settings := rfl
@[simp] theorem State.onGs_store (s : State) (f : Sequencer → Sequencer) : (s.onGs f).store = s.store := rfl
@[simp] theorem State.onGs_signals (s : State) (f : Sequencer → Sequencer) : (s.onGs f).signals = s.signals := rfl
@[simp] theorem State.onGs_freeCount (s : State) (f : Sequencer → Sequencer) : (s.onGs f).freeCount = s.freeCount := rfl
@[simp] theorem State.onGs_pending (s : State) (f : Sequencer → Sequencer) : (s.onGs f).pending = s.pending := rfl

@[simp] theorem State.onSvc_key (s : State) (f : ServicePort → ServicePort) : (s.onSvc f).key = s.key := rfl
@[simp] theorem State.onSvc_loaded (s : State) (f : ServicePort → ServicePort) : (s.onSvc f).loaded = s.loaded := rfl
@[simp] theorem State.onSvc_quiet (s : State) (f : ServicePort → ServicePort) : (s.onSvc f).quiet = s.quiet := rfl
@[simp] theorem State.onSvc_ms (s : State) (f : ServicePort → ServicePort) : (s.onSvc f).ms = s.ms := rfl
@[simp] theorem State.onSvc_ports (s : State) (f : ServicePort → ServicePort) : (s.onSvc f).ports = s.ports := rfl
@[simp] theorem State.onSvc_view (s : State) (f : ServicePort → ServicePort) : (s.onSvc f).view = s.view := rfl
@[simp] theorem State.onSvc_cu (s : State) (f : ServicePort → ServicePort) : (s.onSvc f).cu = s.cu := rfl
@[simp] theorem State.onSvc_gs (s : State) (f : ServicePort → ServicePort) : (s.onSvc f).gs = s.gs := rfl
@[simp] theorem State.onSvc_aux (s : State) (f : ServicePort → ServicePort) : (s.onSvc f).aux = s.aux := rfl
@[simp] theorem State.onSvc_blend (s : State) (f : ServicePort → ServicePort) : (s.onSvc f).blend = s.blend := rfl
@[simp] theorem State.onSvc_wear (s : State) (f : ServicePort → ServicePort) : (s.onSvc f).wear = s.wear := rfl
@[simp] theorem State.onSvc_warn (s : State) (f : ServicePort → ServicePort) : (s.onSvc f).warn = s.warn := rfl
@[simp] theorem State.onSvc_settings (s : State) (f : ServicePort → ServicePort) : (s.onSvc f).settings = s.settings := rfl
@[simp] theorem State.onSvc_store (s : State) (f : ServicePort → ServicePort) : (s.onSvc f).store = s.store := rfl
@[simp] theorem State.onSvc_signals (s : State) (f : ServicePort → ServicePort) : (s.onSvc f).signals = s.signals := rfl
@[simp] theorem State.onSvc_freeCount (s : State) (f : ServicePort → ServicePort) : (s.onSvc f).freeCount = s.freeCount := rfl
@[simp] theorem State.onSvc_pending (s : State) (f : ServicePort → ServicePort) : (s.onSvc f).pending = s.pending := rfl

@[simp] theorem State.setReference_key (s : State) (r : Option (Nat × Nat)) : (s.setReference r).key = s.key := rfl
@[simp] theorem State.setReference_loaded (s : State) (r : Option (Nat × Nat)) : (s.setReference r).loaded = s.loaded := rfl
@[simp] theorem State.setReference_quiet (s : State) (r : Option (Nat × Nat)) : (s.setReference r).quiet = s.quiet := rfl
@[simp] theorem State.setReference_ms (s : State) (r : Option (Nat × Nat)) : (s.setReference r).ms = s.ms := rfl
@[simp] theorem State.setReference_ports (s : State) (r : Option (Nat × Nat)) : (s.setReference r).ports = s.ports := rfl
@[simp] theorem State.setReference_cu (s : State) (r : Option (Nat × Nat)) : (s.setReference r).cu = s.cu := rfl
@[simp] theorem State.setReference_gs (s : State) (r : Option (Nat × Nat)) : (s.setReference r).gs = s.gs := rfl
@[simp] theorem State.setReference_aux (s : State) (r : Option (Nat × Nat)) : (s.setReference r).aux = s.aux := rfl
@[simp] theorem State.setReference_blend (s : State) (r : Option (Nat × Nat)) : (s.setReference r).blend = s.blend := rfl
@[simp] theorem State.setReference_wear (s : State) (r : Option (Nat × Nat)) : (s.setReference r).wear = s.wear := rfl
@[simp] theorem State.setReference_warn (s : State) (r : Option (Nat × Nat)) : (s.setReference r).warn = s.warn := rfl
@[simp] theorem State.setReference_svc (s : State) (r : Option (Nat × Nat)) : (s.setReference r).svc = s.svc := rfl
@[simp] theorem State.setReference_settings (s : State) (r : Option (Nat × Nat)) : (s.setReference r).settings = s.settings := rfl
@[simp] theorem State.setReference_store (s : State) (r : Option (Nat × Nat)) : (s.setReference r).store = s.store := rfl
@[simp] theorem State.setReference_signals (s : State) (r : Option (Nat × Nat)) : (s.setReference r).signals = s.signals := rfl
@[simp] theorem State.setReference_freeCount (s : State) (r : Option (Nat × Nat)) : (s.setReference r).freeCount = s.freeCount := rfl
@[simp] theorem State.setReference_pending (s : State) (r : Option (Nat × Nat)) : (s.setReference r).pending = s.pending := rfl

@[simp] theorem State.setTerms_key (s : State) (c : Contract) (t : Terms) : (s.setTerms c t).key = s.key := rfl
@[simp] theorem State.setTerms_loaded (s : State) (c : Contract) (t : Terms) : (s.setTerms c t).loaded = s.loaded := rfl
@[simp] theorem State.setTerms_quiet (s : State) (c : Contract) (t : Terms) : (s.setTerms c t).quiet = s.quiet := rfl
@[simp] theorem State.setTerms_ms (s : State) (c : Contract) (t : Terms) : (s.setTerms c t).ms = s.ms := rfl
@[simp] theorem State.setTerms_ports (s : State) (c : Contract) (t : Terms) : (s.setTerms c t).ports = s.ports := rfl
@[simp] theorem State.setTerms_view (s : State) (c : Contract) (t : Terms) : (s.setTerms c t).view = s.view := rfl
@[simp] theorem State.setTerms_gs (s : State) (c : Contract) (t : Terms) : (s.setTerms c t).gs = s.gs := rfl
@[simp] theorem State.setTerms_aux (s : State) (c : Contract) (t : Terms) : (s.setTerms c t).aux = s.aux := rfl
@[simp] theorem State.setTerms_blend (s : State) (c : Contract) (t : Terms) : (s.setTerms c t).blend = s.blend := rfl
@[simp] theorem State.setTerms_wear (s : State) (c : Contract) (t : Terms) : (s.setTerms c t).wear = s.wear := rfl
@[simp] theorem State.setTerms_warn (s : State) (c : Contract) (t : Terms) : (s.setTerms c t).warn = s.warn := rfl
@[simp] theorem State.setTerms_svc (s : State) (c : Contract) (t : Terms) : (s.setTerms c t).svc = s.svc := rfl
@[simp] theorem State.setTerms_settings (s : State) (c : Contract) (t : Terms) : (s.setTerms c t).settings = s.settings := rfl
@[simp] theorem State.setTerms_store (s : State) (c : Contract) (t : Terms) : (s.setTerms c t).store = s.store := rfl
@[simp] theorem State.setTerms_signals (s : State) (c : Contract) (t : Terms) : (s.setTerms c t).signals = s.signals := rfl
@[simp] theorem State.setTerms_freeCount (s : State) (c : Contract) (t : Terms) : (s.setTerms c t).freeCount = s.freeCount := rfl
@[simp] theorem State.setTerms_pending (s : State) (c : Contract) (t : Terms) : (s.setTerms c t).pending = s.pending := rfl

@[simp] theorem State.command_key (s : State) (c : GensetCommand) (i : Option Nat) (kw : Nat) : (s.command c i kw).key = s.key := rfl
@[simp] theorem State.command_loaded (s : State) (c : GensetCommand) (i : Option Nat) (kw : Nat) : (s.command c i kw).loaded = s.loaded := rfl
@[simp] theorem State.command_quiet (s : State) (c : GensetCommand) (i : Option Nat) (kw : Nat) : (s.command c i kw).quiet = s.quiet := rfl
@[simp] theorem State.command_ms (s : State) (c : GensetCommand) (i : Option Nat) (kw : Nat) : (s.command c i kw).ms = s.ms := rfl
@[simp] theorem State.command_view (s : State) (c : GensetCommand) (i : Option Nat) (kw : Nat) : (s.command c i kw).view = s.view := rfl
@[simp] theorem State.command_cu (s : State) (c : GensetCommand) (i : Option Nat) (kw : Nat) : (s.command c i kw).cu = s.cu := rfl
@[simp] theorem State.command_gs (s : State) (c : GensetCommand) (i : Option Nat) (kw : Nat) : (s.command c i kw).gs = s.gs := rfl
@[simp] theorem State.command_aux (s : State) (c : GensetCommand) (i : Option Nat) (kw : Nat) : (s.command c i kw).aux = s.aux := rfl
@[simp] theorem State.command_blend (s : State) (c : GensetCommand) (i : Option Nat) (kw : Nat) : (s.command c i kw).blend = s.blend := rfl
@[simp] theorem State.command_wear (s : State) (c : GensetCommand) (i : Option Nat) (kw : Nat) : (s.command c i kw).wear = s.wear := rfl
@[simp] theorem State.command_warn (s : State) (c : GensetCommand) (i : Option Nat) (kw : Nat) : (s.command c i kw).warn = s.warn := rfl
@[simp] theorem State.command_svc (s : State) (c : GensetCommand) (i : Option Nat) (kw : Nat) : (s.command c i kw).svc = s.svc := rfl
@[simp] theorem State.command_settings (s : State) (c : GensetCommand) (i : Option Nat) (kw : Nat) : (s.command c i kw).settings = s.settings := rfl
@[simp] theorem State.command_store (s : State) (c : GensetCommand) (i : Option Nat) (kw : Nat) : (s.command c i kw).store = s.store := rfl
@[simp] theorem State.command_signals (s : State) (c : GensetCommand) (i : Option Nat) (kw : Nat) : (s.command c i kw).signals = s.signals := rfl
@[simp] theorem State.command_freeCount (s : State) (c : GensetCommand) (i : Option Nat) (kw : Nat) : (s.command c i kw).freeCount = s.freeCount := rfl
@[simp] theorem State.command_pending (s : State) (c : GensetCommand) (i : Option Nat) (kw : Nat) : (s.command c i kw).pending = s.pending := rfl

@[simp] theorem State.handCommitment_key (s : State) (t : Terms) : (s.handCommitment t).key = s.key := rfl
@[simp] theorem State.handCommitment_loaded (s : State) (t : Terms) : (s.handCommitment t).loaded = s.loaded := rfl
@[simp] theorem State.handCommitment_quiet (s : State) (t : Terms) : (s.handCommitment t).quiet = s.quiet := rfl
@[simp] theorem State.handCommitment_ms (s : State) (t : Terms) : (s.handCommitment t).ms = s.ms := rfl
@[simp] theorem State.handCommitment_ports (s : State) (t : Terms) : (s.handCommitment t).ports = s.ports := rfl
@[simp] theorem State.handCommitment_view (s : State) (t : Terms) : (s.handCommitment t).view = s.view := rfl
@[simp] theorem State.handCommitment_cu (s : State) (t : Terms) : (s.handCommitment t).cu = s.cu := rfl
@[simp] theorem State.handCommitment_gs (s : State) (t : Terms) : (s.handCommitment t).gs = s.gs := rfl
@[simp] theorem State.handCommitment_aux (s : State) (t : Terms) : (s.handCommitment t).aux = s.aux := rfl
@[simp] theorem State.handCommitment_blend (s : State) (t : Terms) : (s.handCommitment t).blend = s.blend := rfl
@[simp] theorem State.handCommitment_wear (s : State) (t : Terms) : (s.handCommitment t).wear = s.wear := rfl
@[simp] theorem State.handCommitment_warn (s : State) (t : Terms) : (s.handCommitment t).warn = s.warn := rfl
@[simp] theorem State.handCommitment_svc (s : State) (t : Terms) : (s.handCommitment t).svc = s.svc := rfl
@[simp] theorem State.handCommitment_settings (s : State) (t : Terms) : (s.handCommitment t).settings = s.settings := rfl
@[simp] theorem State.handCommitment_store (s : State) (t : Terms) : (s.handCommitment t).store = s.store := rfl
@[simp] theorem State.handCommitment_freeCount (s : State) (t : Terms) : (s.handCommitment t).freeCount = s.freeCount := rfl
@[simp] theorem State.handCommitment_pending (s : State) (t : Terms) : (s.handCommitment t).pending = s.pending := rfl

@[simp] theorem State.raise_signals (s : State) (c : Instr) : (s.raise c).signals = s.signals ++ [c] := rfl
@[simp] theorem State.consume_signals (s : State) (c : Instr) : (s.consume c).signals = s.signals.erase c := rfl
@[simp] theorem State.onCu_cu (s : State) (f : ContractUnit → ContractUnit) : (s.onCu f).cu = f s.cu := rfl
@[simp] theorem State.onGs_gs (s : State) (f : Sequencer → Sequencer) : (s.onGs f).gs = f s.gs := rfl
@[simp] theorem State.onSvc_svc (s : State) (f : ServicePort → ServicePort) : (s.onSvc f).svc = f s.svc := rfl
@[simp] theorem State.setReference_view (s : State) (r : Option (Nat × Nat)) :
    (s.setReference r).view = { s.view with reference := r } := rfl
@[simp] theorem State.setTerms_cu (s : State) (c : Contract) (t : Terms) :
    (s.setTerms c t).cu = { s.cu with active := some { c with terms := t } } := rfl

/-- Another port's record is left alone by a change of one port's. -/
@[simp] theorem PerPort.get_set_self {α : Type} (x : PerPort α) (p : Port) (v : α) : (x.set p v).get p = v := by
  cases p <;> rfl

@[simp] theorem PerPort.get_set_other {α : Type} (x : PerPort α) (p q : Port) (v : α) (h : q ≠ p) :
    (x.set p v).get q = x.get q := by
  cases p <;> cases q <;> first | rfl | exact absurd rfl h

@[simp] theorem State.onPort_port_self (s : State) (p : Port) (f : PartnerPort → PartnerPort) :
    (s.onPort p f).port p = f (s.port p) := by
  cases p <;> rfl

@[simp] theorem State.onPort_port_other (s : State) (p q : Port) (f : PartnerPort → PartnerPort) (h : q ≠ p) :
    (s.onPort p f).port q = s.port q := by
  cases p <;> cases q <;> first | rfl | exact absurd rfl h

@[simp] theorem PerMode.get_set_self {α : Type} (x : PerMode α) (m : Mode) (v : α) : (x.set m v).get m = v := by
  cases m <;> rfl

@[simp] theorem Six.get_set_self {α : Type} (x : Six α) (w : Wheel) (v : α) : (x.set w v).get w = v := by
  cases w <;> rfl

@[simp] theorem Six.get_set_other {α : Type} (x : Six α) (w u : Wheel) (v : α) (h : u ≠ w) :
    (x.set w v).get u = x.get u := by
  cases w <;> cases u <;> first | rfl | exact absurd rfl h

@[simp] theorem Six.get_map {α β : Type} (f : α → β) (x : Six α) (w : Wheel) : (x.map f).get w = f (x.get w) := by
  cases w <;> rfl

@[simp] theorem sixOf_get {α : Type} (f : Wheel → α) (w : Wheel) : (sixOf f).get w = f w := by
  cases w <;> rfl

end Sys2Proof.Machine
end

