-- ==== Sys2Proof/Laws/Contract.lean ====
section
/-! SUPPORT. The operations of the Contract Unit: what each leaves in its record, and that terms stay lawful. -/

namespace Sys2Proof.Machine

/-! ### What the operations leave in the Contract Unit -/

@[simp] theorem State.raiseIf_cu (s : State) (b : Bool) (c : Instr) : (s.raiseIf b c).cu = s.cu := by
  unfold State.raiseIf; split <;> rfl

@[simp] theorem State.handLevels_cu (s : State) (l : List OwnerLevel) : (s.handLevels l).cu = s.cu := by
  unfold State.handLevels; split <;> rfl

@[simp] theorem State.levelsFrom_cu (s : State) (m : Bool) (g : Gate) : (s.levelsFrom m g).cu = s.cu :=
  State.handLevels_cu _ _

@[simp] theorem State.notify_cu (s : State) (ps : List Port) (n : Notice) : (s.notify ps n).cu = s.cu := by
  induction ps generalizing s with
  | nil => rfl
  | cons p ps ih => exact (ih _).trans rfl

@[simp] theorem State.sendContract_cu (s : State) (ps : List Port) (f : Nat → Terms → Notice) :
    (s.sendContract ps f).cu = s.cu := by
  unfold State.sendContract; split
  · rfl
  · exact State.notify_cu _ _ _

@[simp] theorem State.usedInputs_cu (s : State) : s.usedInputs.cu = s.cu := by
  unfold State.usedInputs; split <;> rfl

@[simp] theorem State.setWanted_cu (s : State) (w : Bool) : (s.setWanted w).cu = { s.cu with gensetWanted := w } := by
  unfold State.setWanted
  split
  · next h => rw [← h]
  · rfl

@[simp] theorem State.runRecords_cu (s : State) :
    s.runRecords.cu =
      { s.cu with
        lastSelection := recordOf (s.inputs.pass s.inputs.online) s.runOutcome
        gensetWanted := s.inputs.wants } := by
  simp [State.runRecords]

@[simp] theorem State.drop_cu (s : State) (r : DropReason) :
    (s.drop r).cu = { s.cu.dropped r with gensetWanted := false } := by
  simp [State.drop]

@[simp] theorem State.propose_cu (s : State) (n : Nat) (t : Terms) :
    (s.propose n t).cu =
      { s.cu with
        counter := s.cu.nextNumber
        proposal := some ⟨s.cu.nextNumber, t, requiredOf t, PartySet.empty, s.view.storageSerial, s.view.gensetSerial⟩
        round := .inRound n
        window := .running s.settings.window } := by
  simp [State.propose]

@[simp] theorem State.evaluateWanted_cu (s : State) :
    s.evaluateWanted.cu = { s.cu with gensetWanted := s.inputs.wants } := by
  simp [State.evaluateWanted]

/-! ### Terms stay lawful (R40) -/

/-- A revision of the charge allowance keeps terms lawful (R53). -/
theorem Terms.refit_lawful {t : Terms} (h : t.lawful) (acceptance cap : Nat) : (t.refit acceptance cap).lawful := by
  obtain ⟨b, n, c⟩ := h
  refine ⟨?_, ?_, ?_⟩
  · simp only [Terms.refit]; omega
  · simp only [Terms.refit]
    split
    · simp; omega
    · rw [n]; omega
  · simp only [Terms.refit]; omega

/-- An imposed reduction that keeps the contract keeps its terms lawful (R56). -/
theorem Terms.reduce_lawful {t u : Terms} (h : t.lawful) {sAvail gAvail acceptance cap : Nat} {g : Bool}
    (e : t.reduce sAvail gAvail acceptance cap g = .ok u) : u.lawful := by
  obtain ⟨b, n, c⟩ := h
  have names : ∀ k, k ≤ t.commitment → ((if k = 0 then none else t.gensetIndex).isSome = true ↔ k ≠ 0) := by
    intro k hk
    split
    · simp; omega
    · rw [n]; omega
  unfold Terms.reduce at e
  dsimp only at e
  split at e
  · cases e
    exact ⟨by simp, names _ (by omega), by simp⟩
  · split at e
    · cases e
    · split at e
      · cases e
      · split at e
        · cases e
        · cases e
          exact ⟨by simp; omega, names _ (by omega), by simp⟩

/-- A change of the marks of terms that are not figures of R40 keeps them lawful. -/
theorem Terms.lawful_with {t : Terms} (h : t.lawful) (i : Nat) (p : Option Nat) :
    ({ t with storageIndex := i, peak := p } : Terms).lawful := ⟨h.balance, h.names, h.charged⟩

end Sys2Proof.Machine
end

