-- ==== Sys2Proof/Laws/Footprint.lean ====
section
/-! SUPPORT. What each shared operation can change: one lemma per operation says which parts of State it leaves as they were. -/

namespace Sys2Proof.Machine

/-- `t` differs from `s` in these parts at most, and no queue of `t` holds two notices of one class if none of `s` does. -/
def Tidy (l : List Piece) (s t : State) : Prop := Within l s t ∧ (s.queuesLawful → t.queuesLawful)

theorem Tidy.refl (l : List Piece) (s : State) : Tidy l s s := by
  refine ⟨?_, id⟩
  intro p _
  cases p <;> rfl

theorem Tidy.trans {l : List Piece} {s t u : State} (h : Tidy l s t) (g : Tidy l t u) : Tidy l s u := by
  refine ⟨?_, g.2 ∘ h.2⟩
  intro p hp
  have a := h.1 p hp
  have b := g.1 p hp
  cases p <;> exact Eq.trans b a

theorem Tidy.mono {l m : List Piece} {s t : State} (h : Tidy l s t) (hs : l ⊆ m) : Tidy m s t :=
  ⟨fun p hp => h.1 p fun hl => hp (hs hl), h.2⟩

theorem Tidy.ite {l : List Piece} {s t u : State} {b : Prop} [Decidable b] (h : Tidy l s t) (g : Tidy l s u) :
    Tidy l s (if b then t else u) := by
  split
  · exact h
  · exact g

/-! ### Queues (R153) -/

/-- A notice that joins a queue leaves no two of one class (R153). -/
theorem enqueue_lawful {q : List Notice} (h : (q.map Notice.cls).Nodup) (n : Notice) : ((enqueue q n).map Notice.cls).Nodup := by
  unfold enqueue
  split
  · have e : ∀ x : Notice, (if (x.cls == n.cls) = true then n else x).cls = x.cls := by
      intro x; split
      · next k => exact (beq_iff_eq.1 k).symm
      · rfl
    rw [List.map_map]
    have : Notice.cls ∘ (fun x : Notice => if (x.cls == n.cls) = true then n else x) = Notice.cls := funext e
    rw [this]; exact h
  · next k =>
    rw [List.map_append, List.nodup_append]
    refine ⟨h, by simp, ?_⟩
    intro a ha b hb
    obtain ⟨x, hx, rfl⟩ := List.mem_map.1 ha
    simp only [List.map_cons, List.map_nil, List.mem_singleton] at hb
    subst hb
    intro e
    exact k (List.any_eq_true.2 ⟨x, hx, by simp [e]⟩)

theorem submit_lawful {pp : PartnerPort} (h : pp.lawful) (n : Notice) : (pp.submit n).lawful := by
  unfold PartnerPort.submit
  split
  · exact enqueue_lawful h n
  · exact h

theorem place_lawful {pp : PartnerPort} (h : pp.lawful) (i : Instr) (r : Reply) : (pp.place i r).lawful := by
  unfold PartnerPort.place
  split
  · exact h
  · split
    · exact h
    · split <;> exact h

theorem take_lawful {pp : PartnerPort} (h : pp.lawful) (i : Option Instr) : (pp.take i).lawful := by
  unfold PartnerPort.take
  split
  · cases i <;> exact h
  · exact h

theorem fail_lawful {pp : PartnerPort} (h : pp.lawful) (c : FrameClass) : (pp.fail c).lawful := by
  unfold PartnerPort.fail
  dsimp only
  split <;> split <;> exact h

theorem dispose_lawful {pp : PartnerPort} (h : pp.lawful) (x : Exchange) (n : Nat) : (pp.dispose x n).lawful := by
  unfold PartnerPort.dispose
  dsimp only
  split
  · split
    · exact h
    · exact h
    · exact (List.filter_sublist.map _).nodup h
  · exact h

theorem empty_lawful (pp : PartnerPort) : pp.emptyReply.emptyQueue.lawful := List.nodup_nil

theorem portReset_lawful (pp : PartnerPort) : pp.portReset.lawful := List.nodup_nil

theorem onPort_lawful {s : State} (h : s.queuesLawful) (p : Port) {f : PartnerPort → PartnerPort}
    (hf : (s.port p).lawful → (f (s.port p)).lawful) : (s.onPort p f).queuesLawful := by
  intro q
  have e := h q
  have e' := hf (h p)
  cases p <;> cases q <;> first | exact e | exact e'

theorem within_raise (s : State) (c : Instr) : Tidy [.signals] s (s.raise c) := by
  exact ⟨by intro p hp; cases p <;> first | rfl | exact absurd (by decide) hp, fun h => h⟩

theorem within_consume (s : State) (c : Instr) : Tidy [.signals] s (s.consume c) := by
  exact ⟨by intro p hp; cases p <;> first | rfl | exact absurd (by decide) hp, fun h => h⟩

theorem within_raiseIf (s : State) (b : Bool) (c : Instr) : Tidy [.signals] s (s.raiseIf b c) :=
  Tidy.ite (within_raise s c) (Tidy.refl _ s)

theorem within_handLevels (s : State) (l : List OwnerLevel) : Tidy [.signals] s (s.handLevels l) :=
  Tidy.ite (Tidy.refl _ s) (within_raise s _)

theorem within_onPort (s : State) (p : Port) {f : PartnerPort → PartnerPort}
    (hf : (s.port p).lawful → (f (s.port p)).lawful) : Tidy [.ports] s (s.onPort p f) :=
  ⟨by intro q hq; cases q <;> first | rfl | exact absurd (by decide) hq, fun h => onPort_lawful h p hf⟩

theorem within_submit (s : State) (p : Port) (n : Notice) : Tidy [.ports] s (s.submit p n) :=
  within_onPort s p fun h => submit_lawful h n

theorem within_notify (s : State) (ps : List Port) (n : Notice) : Tidy [.ports] s (s.notify ps n) := by
  unfold State.notify
  induction ps generalizing s with
  | nil => exact Tidy.refl _ s
  | cons p ps ih => exact (within_submit s p n).trans (ih _)

theorem within_answer (s : State) (p : Port) (i : Instr) (k : Nat) (o : Answer) (b : Bool) (l : List Byte) :
    Tidy [.ports] s (s.answer p i k o b l) :=
  within_onPort s p fun h => place_lawful h i _

theorem within_portChanged (s : State) (p : Port) (was now : PortState) : Tidy [.signals] s (s.portChanged p was now) := by
  unfold State.portChanged
  dsimp only
  refine Tidy.trans ?_ (within_raise _ _)
  refine Tidy.trans ?_ (within_raiseIf _ _ _)
  refine Tidy.trans ?_ (within_raiseIf _ _ _)
  refine Tidy.trans ?_ (within_raiseIf _ _ _)
  cases p
  · exact (within_raiseIf s _ _).trans (within_raise _ _)
  · exact (within_raiseIf s _ _).trans (within_raise _ _)
  · exact (within_raiseIf s _ _).trans (within_raiseIf _ _ _)
  · exact within_raiseIf s _ _

theorem within_serviceAnswer (s : State) (i : Instr) (k : Nat) (o : Answer) (b : Bool) (l : List Byte) :
    Tidy [.svc] s (s.serviceAnswer i k o b l) := by
  exact ⟨by intro p hp; cases p <;> first | rfl | exact absurd (by decide) hp, fun h => h⟩

theorem within_serviceDone (s : State) (i : Instr) (k : Nat) : Tidy [.svc] s (s.serviceDone i k) :=
  within_serviceAnswer s i k .done false []

theorem within_writeDone (s : State) (i : Instr) (b : Bool) : Tidy [.svc] s (s.writeDone i b) :=
  within_serviceAnswer s i 0x61 .done b []

theorem within_onCu (s : State) (f : ContractUnit → ContractUnit) : Tidy [.cu] s (s.onCu f) := by
  exact ⟨by intro p hp; cases p <;> first | rfl | exact absurd (by decide) hp, fun h => h⟩

theorem within_onGs (s : State) (f : Sequencer → Sequencer) : Tidy [.gs] s (s.onGs f) := by
  exact ⟨by intro p hp; cases p <;> first | rfl | exact absurd (by decide) hp, fun h => h⟩

theorem within_onSvc (s : State) (f : ServicePort → ServicePort) : Tidy [.svc] s (s.onSvc f) := by
  exact ⟨by intro p hp; cases p <;> first | rfl | exact absurd (by decide) hp, fun h => h⟩

theorem within_view (s : State) (v : View) : Tidy [.view] s { s with view := v } := by
  exact ⟨by intro p hp; cases p <;> first | rfl | exact absurd (by decide) hp, fun h => h⟩

theorem within_settings (s : State) (x : Settings) : Tidy [.settings] s { s with settings := x } := by
  exact ⟨by intro p hp; cases p <;> first | rfl | exact absurd (by decide) hp, fun h => h⟩

theorem within_blend (s : State) (b : BlendUnit) : Tidy [.blend] s { s with blend := b } := by
  exact ⟨by intro p hp; cases p <;> first | rfl | exact absurd (by decide) hp, fun h => h⟩

theorem within_wear (s : State) (w : WearUnit) : Tidy [.wear] s { s with wear := w } := by
  exact ⟨by intro p hp; cases p <;> first | rfl | exact absurd (by decide) hp, fun h => h⟩

theorem within_warn (s : State) (w : WarningUnit) : Tidy [.warn] s { s with warn := w } := by
  exact ⟨by intro p hp; cases p <;> first | rfl | exact absurd (by decide) hp, fun h => h⟩

theorem within_aux (s : State) (a : AuxUnit) : Tidy [.aux] s { s with aux := a } := by
  exact ⟨by intro p hp; cases p <;> first | rfl | exact absurd (by decide) hp, fun h => h⟩

theorem within_store (s : State) (t : Store) : Tidy [.store] s { s with store := t } := by
  exact ⟨by intro p hp; cases p <;> first | rfl | exact absurd (by decide) hp, fun h => h⟩

theorem within_storeFree (s : State) (t : Store) (n : Nat) :
    Tidy [.store, .freeCount] s { s with store := t, freeCount := n } := by
  exact ⟨by intro p hp; cases p <;> first | rfl | exact absurd (by decide) hp, fun h => h⟩

theorem within_key (s : State) (b : Bool) : Tidy [.key] s { s with key := b } := by
  exact ⟨by intro p hp; cases p <;> first | rfl | exact absurd (by decide) hp, fun h => h⟩

theorem within_quiet (s : State) (b : Bool) : Tidy [.quiet] s { s with quiet := b } := by
  exact ⟨by intro p hp; cases p <;> first | rfl | exact absurd (by decide) hp, fun h => h⟩

/-! ### The Contract Unit -/

theorem within_usedInputs (s : State) : Tidy [.freeCount] s s.usedInputs := by
  unfold State.usedInputs
  refine Tidy.ite (Tidy.refl _ s) ?_
  exact ⟨by intro p hp; cases p <;> first | rfl | exact absurd (by decide) hp, fun h => h⟩

theorem within_setReference (s : State) (r : Option (Nat × Nat)) : Tidy [.view] s (s.setReference r) := within_view s _

theorem within_setTerms (s : State) (c : Contract) (t : Terms) : Tidy [.cu] s (s.setTerms c t) := within_onCu s _

theorem within_handCommitment (s : State) (t : Terms) : Tidy [.signals] s (s.handCommitment t) := within_raise s _

theorem within_levelsFrom (s : State) (m : Bool) (g : Gate) : Tidy [.signals] s (s.levelsFrom m g) := within_handLevels s _

theorem within_sendContract (s : State) (ps : List Port) (f : Nat → Terms → Notice) :
    Tidy [.ports] s (s.sendContract ps f) := by
  unfold State.sendContract
  split
  · exact Tidy.refl _ s
  · exact within_notify s _ _

theorem within_setWanted (s : State) (w : Bool) : Tidy [.cu, .signals] s (s.setWanted w) := by
  unfold State.setWanted
  refine Tidy.ite (Tidy.refl _ s) ?_
  exact ⟨by intro p hp; cases p <;> first | rfl | exact absurd (by decide) hp, fun h => h⟩

theorem within_evaluateWanted (s : State) : Tidy contractPieces s s.evaluateWanted :=
  ((within_setWanted s _).mono (by decide)).trans ((within_usedInputs _).mono (by decide))

theorem within_runRecords (s : State) : Tidy contractPieces s s.runRecords := by
  unfold State.runRecords
  refine Tidy.trans ?_ ((within_usedInputs _).mono (by decide))
  refine Tidy.trans ?_ ((within_setWanted _ _).mono (by decide))
  exact ⟨by intro p hp; cases p <;> first | rfl | exact absurd (by decide) hp, fun h => h⟩

theorem within_drop (s : State) (r : DropReason) : Tidy contractPieces s (s.drop r) := by
  unfold State.drop
  dsimp only
  refine Tidy.trans ?_ ((within_levelsFrom _ _ _).mono (by decide))
  refine Tidy.trans ?_ ((within_raise _ _).mono (by decide))
  refine Tidy.trans ?_ ((within_raise _ _).mono (by decide))
  refine Tidy.trans ?_ ((within_raiseIf _ _ _).mono (by decide))
  refine Tidy.trans ?_ ((within_setWanted _ _).mono (by decide))
  refine Tidy.trans ?_ ((within_notify _ _ _).mono (by decide))
  refine Tidy.trans ?_ ((within_setReference _ _).mono (by decide))
  exact ((within_onCu s _).mono (by decide))

theorem within_propose (s : State) (n : Nat) (t : Terms) : Tidy contractPieces s (s.propose n t) :=
  ((within_onCu s _).mono (by decide)).trans ((within_notify _ _ _).mono (by decide))

theorem within_noneOutcome (s : State) (r : SelectionReason) : Tidy contractPieces s (s.noneOutcome r).1 := by
  unfold State.noneOutcome
  split
  · exact (within_onCu s _).mono (by decide)
  · split
    · exact (within_onCu s _).mono (by decide)
    · exact within_drop s _

theorem within_runClear (s : State) : Tidy contractPieces s s.runClear := by
  unfold State.runClear
  refine (within_runRecords s).trans ?_
  dsimp only
  split
  · exact within_propose _ _ _
  · exact Tidy.refl _ _
  · exact within_noneOutcome _ _

theorem within_actOnFlag (s : State) : Tidy contractPieces s s.actOnFlag :=
  Tidy.ite (((within_onCu s _).mono (by decide)).trans (within_runClear _)) (Tidy.refl _ s)

theorem within_runIdle (s : State) : Tidy contractPieces s s.runIdle := by
  unfold State.runIdle
  refine (within_runRecords s).trans ?_
  dsimp only
  split
  · exact within_propose _ _ _
  · exact Tidy.refl _ _
  · exact (within_noneOutcome _ _).trans (Tidy.ite (within_actOnFlag _) (Tidy.refl _ _))

theorem within_endRound (s : State) : Tidy contractPieces s s.endRound := by
  unfold State.endRound
  split
  · exact (within_onCu s _).mono (by decide)
  · exact ((within_onCu s _).mono (by decide)).trans (within_actOnFlag _)

theorem within_runInRound (s : State) (n : Nat) : Tidy contractPieces s (s.runInRound n) := by
  unfold State.runInRound
  refine (within_runRecords s).trans ?_
  dsimp only
  split
  · exact within_propose _ _ _
  · exact within_endRound _
  · exact (within_noneOutcome _ _).trans (Tidy.ite (within_actOnFlag _) (Tidy.refl _ _))

theorem within_trigger (s : State) : Tidy contractPieces s s.trigger := by
  unfold State.trigger
  split
  · split
    · exact within_runIdle s
    · exact within_evaluateWanted s
    · exact ((within_onCu s _).mono (by decide)).trans (within_evaluateWanted _)
  · exact Tidy.refl _ s

theorem within_triggerIf (s : State) (b : Bool) : Tidy contractPieces s (s.triggerIf b) :=
  Tidy.ite (within_trigger s) (Tidy.refl _ s)

theorem within_withdraw (s : State) : Tidy contractPieces s s.withdraw := by
  unfold State.withdraw
  split
  · exact Tidy.refl _ s
  · exact ((within_onCu s _).mono (by decide)).trans ((within_notify _ _ _).mono (by decide))

theorem within_openGate (s : State) : Tidy contractPieces s s.openGate := by
  unfold State.openGate
  dsimp only
  refine Tidy.trans ?_ (((within_levelsFrom _ _ _).mono (by decide)).trans (within_trigger _))
  refine Tidy.trans ?_ ((within_raise _ _).mono (by decide))
  exact ((within_onCu s _).mono (by decide))

theorem within_testGate (s : State) : Tidy contractPieces s s.testGate := by
  unfold State.testGate
  split
  · exact Tidy.refl _ s
  · exact Tidy.ite (within_openGate s) (Tidy.refl _ s)
  · exact Tidy.ite (within_openGate s) (Tidy.refl _ s)

theorem within_revise (s : State) : Tidy contractPieces s s.revise := by
  unfold State.revise
  split
  · exact Tidy.refl _ s
  · dsimp only
    refine Tidy.trans ?_ (Tidy.ite (Tidy.refl _ _) ?_)
    exact ((within_usedInputs s).mono (by decide))
    refine Tidy.trans ?_ ((within_raiseIf _ _ _).mono (by decide))
    refine Tidy.trans ?_ (Tidy.ite (Tidy.refl _ _) ((within_handCommitment _ _).mono (by decide)))
    refine Tidy.trans ?_ ((within_sendContract _ _ _).mono (by decide))
    refine Tidy.trans ?_ ((within_setReference _ _).mono (by decide))
    exact ((within_setTerms _ _ _).mono (by decide))

theorem within_reduceTo (s : State) (c : Contract) (t : Terms) (a g : Nat) : Tidy contractPieces s (s.reduceTo c t a g) := by
  unfold State.reduceTo
  split
  · exact ((within_usedInputs s).mono (by decide)).trans (within_drop _ _)
  · dsimp only
    refine Tidy.trans ?_ ((within_raiseIf _ _ _).mono (by decide))
    refine Tidy.trans ?_ (Tidy.ite (Tidy.refl _ _) ((within_handCommitment _ _).mono (by decide)))
    refine Tidy.trans ?_ ((within_sendContract _ _ _).mono (by decide))
    refine Tidy.trans ?_ ((within_setReference _ _).mono (by decide))
    refine Tidy.trans ?_ ((within_setTerms _ _ _).mono (by decide))
    exact ((within_usedInputs s).mono (by decide))

theorem within_reduceIf (s : State) (b : Terms → Bool) (a g : Terms → Nat) : Tidy contractPieces s (s.reduceIf b a g) := by
  unfold State.reduceIf
  split
  · exact Tidy.refl _ s
  · exact Tidy.ite (within_reduceTo _ _ _ _ _) (Tidy.refl _ s)

theorem within_peakAtActivation (s : State) (r : Option Contract) (t : Terms) : Tidy [.cu] s (s.peakAtActivation r t) := by
  unfold State.peakAtActivation
  split
  · exact within_onCu s _
  · exact Tidy.ite (Tidy.refl _ s) (within_onCu s _)

theorem within_refreshPeak (s : State) : Tidy contractPieces s s.refreshPeak := by
  unfold State.refreshPeak
  split
  · exact Tidy.refl _ s
  · dsimp only
    refine Tidy.trans ?_ (Tidy.ite (Tidy.refl _ _) ?_)
    exact ((within_onCu s _).mono (by decide))
    exact ((within_setTerms _ _ _).mono (by decide)).trans ((within_sendContract _ _ _).mono (by decide))

theorem within_enact (s : State) (p : Proposal) : Tidy contractPieces s (s.enact p) := by
  unfold State.enact
  dsimp only
  refine Tidy.trans ?_ ((within_levelsFrom _ _ _).mono (by decide))
  refine Tidy.trans ?_ ((within_raise _ _).mono (by decide))
  refine Tidy.trans ?_ ((within_raiseIf _ _ _).mono (by decide))
  refine Tidy.trans ?_ (Tidy.ite ((within_handCommitment _ _).mono (by decide)) (Tidy.refl _ _))
  refine Tidy.trans ?_ ((within_sendContract _ _ _).mono (by decide))
  refine Tidy.trans ?_ ((within_peakAtActivation _ _ _).mono (by decide))
  refine Tidy.trans ?_ ((within_setReference _ _).mono (by decide))
  refine Tidy.trans ?_ ((within_view _ _).mono (by decide))
  refine Tidy.trans ?_ ((within_onCu _ _).mono (by decide))
  exact ((within_usedInputs s).mono (by decide))

theorem within_activate (s : State) (p : Proposal) : Tidy contractPieces s (s.activate p) :=
  (within_enact s p).trans (within_actOnFlag _)

theorem within_discard (s : State) (p : Proposal) (b : PartySet) (r : DeclineReason) :
    Tidy contractPieces s (s.discard p b r) := by
  unfold State.discard
  dsimp only
  refine Tidy.trans ?_ (((within_notify _ _ _).mono (by decide)).trans ((within_view _ _).mono (by decide)))
  exact ((within_onCu s _).mono (by decide))

theorem within_continueRound (s : State) (b : Bool) : Tidy contractPieces s (s.continueRound b) := by
  unfold State.continueRound
  split
  · exact within_endRound s
  · split
    · exact Tidy.ite (within_endRound s) (within_runInRound s _)
    · exact within_endRound s
    · exact within_endRound s

theorem within_takeYield (s : State) (sup : Supplier) (kw : Nat) : Tidy contractPieces s (s.takeYield sup kw) := by
  unfold State.takeYield
  dsimp only
  split
  · exact Tidy.refl _ s
  · refine (within_withdraw s).trans ?_
    cases sup
    · exact (within_reduceIf _ _ _ _).trans (within_trigger _)
    · exact (within_reduceIf _ _ _ _).trans (within_trigger _)

theorem within_reduceAtPeak (s : State) : Tidy contractPieces s s.reduceAtPeak := by
  unfold State.reduceAtPeak
  split
  · exact Tidy.refl _ s
  · split
    · exact within_reduceTo _ _ _ _ _
    · exact within_reduceTo _ _ _ _ _

theorem within_markExpired (s : State) : Tidy [.view] s s.markExpired := by
  unfold State.markExpired
  split
  · exact Tidy.refl _ s
  · exact within_view s _

theorem within_evaluateNeed (s : State) : Tidy [.cu, .signals] s s.evaluateNeed := by
  unfold State.evaluateNeed
  split
  · exact Tidy.refl _ s
  · exact ((within_onCu s _).mono (by decide)).trans ((within_raiseIf _ _ _).mono (by decide))

theorem within_noteArrival (s : State) (k : ArrivalKind) : Tidy [.cu] s (s.noteArrival k) := by
  cases k
  · exact within_onCu s _
  · exact within_onCu s _
  · exact Tidy.refl _ s
  · exact Tidy.refl _ s

theorem within_takeList (s : State) (sup : Supplier) : Tidy contractPieces s (s.takeList sup) := by
  cases sup
  · exact ((within_withdraw s).trans (within_reduceIf _ _ _ _)).trans (within_refreshPeak _)
  · unfold State.takeList
    dsimp only
    exact (Tidy.ite (within_withdraw s) (Tidy.refl _ s)).trans (within_reduceIf _ _ _ _)

theorem within_takeChanges (s : State) (k : ArrivalKind) (c : ChangeSet) (b : Bool) :
    Tidy contractPieces s (s.takeChanges k c b) := by
  unfold State.takeChanges
  dsimp only
  have h : Tidy contractPieces s (if c.acceptance = true then s.revise else s) :=
    Tidy.ite (within_revise s) (Tidy.refl _ s)
  refine Tidy.trans ?_ (within_triggerIf _ _)
  split
  · cases k
    · exact h
    · exact h
    · exact h.trans (within_takeList _ _)
    · exact h.trans (within_takeList _ _)
  · exact h

theorem within_declineLost (s : State) : Tidy contractPieces s s.declineLost := by
  unfold State.declineLost
  split
  · exact Tidy.refl _ s
  · exact Tidy.ite ((within_discard s _ _ _).trans (within_continueRound _ _)) (Tidy.refl _ s)

theorem within_takeLeaving (s : State) : Tidy contractPieces s s.takeLeaving := by
  unfold State.takeLeaving
  dsimp only
  exact (Tidy.ite (within_withdraw s) (Tidy.refl _ s)).trans (within_reduceIf _ _ _ _)

theorem within_takeDerate (s : State) : Tidy contractPieces s s.takeDerate := by
  unfold State.takeDerate
  dsimp only
  refine Tidy.trans ?_ ((Tidy.ite (within_withdraw _) (Tidy.refl _ _)).trans (within_reduceIf _ _ _ _))
  exact (within_revise s)

theorem within_contractKeyOff (s : State) : Tidy contractPieces s s.contractKeyOff := by
  unfold State.contractKeyOff
  split
  · exact within_drop s _
  · refine Tidy.trans ?_ (((within_raise _ _).mono (by decide)).trans ((within_levelsFrom _ _ _).mono (by decide)))
    exact ((within_onCu s _).mono (by decide))
  · exact Tidy.refl _ s

/-! ### The Genset Sequencer -/

theorem within_command (s : State) (c : GensetCommand) (i : Option Nat) (kw : Nat) : Tidy [.ports] s (s.command c i kw) :=
  within_submit s _ _

theorem within_operate (s : State) : Tidy [.ports] s s.operate := within_submit s _ _

theorem within_leaving (s : State) (w : GensetState) : Tidy [.signals] s (s.leaving w) := within_raiseIf s _ _

theorem within_lockOut (s : State) (c : StopCause) (n : Option Nat) : Tidy gensetPieces s (s.lockOut c n) := by
  unfold State.lockOut
  dsimp only
  refine Tidy.trans ?_ (((within_leaving _ _).mono (by decide)).trans ((within_raise _ _).mono (by decide)))
  exact ((within_onGs s _).mono (by decide))

theorem within_startEngine (s : State) (c : StartCause) : Tidy gensetPieces s (s.startEngine c) := by
  unfold State.startEngine
  refine Tidy.ite ?_ ?_
  · exact ((within_onGs s _).mono (by decide)).trans ((within_command _ _ _ _).mono (by decide))
  · exact (within_lockOut s _ _).trans ((within_command _ _ _ _).mono (by decide))

theorem within_coolDown (s : State) : Tidy [.gs] s s.coolDown := within_onGs s _

theorem within_idleOffEnds (s : State) (c : StopCause) : Tidy gensetPieces s (s.idleOffEnds c) := by
  unfold State.idleOffEnds
  dsimp only
  refine Tidy.trans ?_ (((within_coolDown _).mono (by decide)).trans ((within_leaving _ _).mono (by decide)))
  refine Tidy.trans ?_ ((within_onGs _ _).mono (by decide))
  exact ((within_command s _ _ _).mono (by decide))

theorem within_applyIdleRule (s : State) : Tidy gensetPieces s s.applyIdleRule := by
  unfold State.applyIdleRule
  refine Tidy.ite (Tidy.ite (Tidy.ite (Tidy.refl _ s) (Tidy.ite (within_idleOffEnds s _) ?_)) ?_) (Tidy.refl _ s)
  · exact (within_onGs s _).mono (by decide)
  · exact (within_onGs s _).mono (by decide)

theorem within_enterOnline (s : State) : Tidy gensetPieces s s.enterOnline := by
  unfold State.enterOnline
  dsimp only
  refine Tidy.trans ?_ (((within_raise _ _).mono (by decide)).trans (within_applyIdleRule _))
  refine Tidy.trans ?_ ((within_operate _).mono (by decide))
  exact ((within_onGs s _).mono (by decide))

theorem within_evaluateStart (s : State) : Tidy gensetPieces s s.evaluateStart := by
  unfold State.evaluateStart
  split
  · exact Tidy.ite (within_startEngine s _) (Tidy.refl _ s)
  · exact Tidy.ite (within_enterOnline s) (Tidy.refl _ s)
  all_goals exact Tidy.refl _ s

theorem within_enterStopped (s : State) : Tidy gensetPieces s s.enterStopped :=
  ((within_onGs s _).mono (by decide)).trans (within_evaluateStart _)

theorem within_enterCooldown (s : State) : Tidy gensetPieces s s.enterCooldown :=
  (((within_command s _ _ _).mono (by decide)).trans ((within_coolDown _).mono (by decide))).trans (within_evaluateStart _)

theorem within_failed (s : State) (n : Option Nat) : Tidy gensetPieces s (s.failed n) :=
  (within_lockOut s _ _).trans ((within_command _ _ _ _).mono (by decide))

theorem within_crankEnds (s : State) (k : Int) : Tidy gensetPieces s (s.crankEnds k) := by
  unfold State.crankEnds
  dsimp only
  refine Tidy.trans ?_ (Tidy.ite (within_enterOnline _) ((within_onGs _ _).mono (by decide)))
  refine Tidy.trans ?_ ((within_raise _ _).mono (by decide))
  exact ((within_onGs s _).mono (by decide))

theorem within_takeGensetReport (s : State) (c : EngineCondition) (k : Int) (f : Option Nat) :
    Tidy gensetPieces s (s.takeGensetReport c k f) := by
  have r : Tidy gensetPieces s s := Tidy.refl _ s
  have stop : Tidy gensetPieces s (s.command .stop) := (within_command s _ _ _).mono (by decide)
  unfold State.takeGensetReport
  split
  · exact within_enterStopped s
  · exact stop.trans (within_enterStopped _)
  · exact within_enterCooldown s
  · exact within_failed s _
  · exact r
  · exact stop
  · exact stop
  · exact within_failed s _
  · exact r
  · exact r
  · exact within_crankEnds s _
  · exact within_failed s _
  · exact r
  · exact stop
  · exact stop
  · exact within_failed s _
  · exact within_failed s _
  · exact r
  · exact Tidy.ite (within_enterOnline s) r
  · exact within_failed s _
  · exact within_failed s _
  · exact r
  · exact r
  · exact within_failed s _
  · exact ((within_onGs s _).mono (by decide)).trans (within_enterStopped _)
  · exact r
  · exact r
  · exact within_failed s _
  · exact r

theorem within_takeActivity (s : State) (a : ActivitySource) : Tidy [.gs] s (s.takeActivity a) := within_onGs s _

theorem within_zoneSet (s : State) : Tidy gensetPieces s s.zoneSet := by
  unfold State.zoneSet
  refine Tidy.ite (within_idleOffEnds s _) (Tidy.ite ?_ (Tidy.refl _ s))
  exact (within_onGs s _).mono (by decide)

theorem within_abandonCrank (s : State) : Tidy gensetPieces s s.abandonCrank := by
  unfold State.abandonCrank
  refine Tidy.trans ?_ (((within_command _ _ _ _).mono (by decide)).trans (within_enterStopped _))
  exact ((within_onGs s _).mono (by decide))

theorem within_retire (s : State) : Tidy gensetPieces s s.retire := by
  unfold State.retire
  dsimp only
  refine Tidy.trans ?_ (((within_leaving _ _).mono (by decide)).trans (within_enterCooldown _))
  exact ((within_onGs s _).mono (by decide))

theorem within_keyOffCause (s : State) : Tidy [.gs] s s.keyOffCause := within_onGs s _

theorem within_sequencerKeyOff (s : State) : Tidy gensetPieces s s.sequencerKeyOff := by
  unfold State.sequencerKeyOff
  split
  · exact ((within_keyOffCause s).mono (by decide)).trans (within_abandonCrank _)
  · exact ((within_keyOffCause s).mono (by decide)).trans (within_retire _)
  · exact ((within_keyOffCause s).mono (by decide)).trans (within_retire _)
  · exact Tidy.refl _ s
  · exact within_evaluateStart s
  · exact Tidy.refl _ s
  · exact within_evaluateStart s
  · exact Tidy.refl _ s

theorem within_sequencerReset (s : State) : Tidy gensetPieces s s.sequencerReset := by
  unfold State.sequencerReset
  dsimp only
  have h : Tidy gensetPieces s (s.onGs fun g => { g with wantedCopy := false }) := (within_onGs s _).mono (by decide)
  split
  · exact h.trans (within_abandonCrank _)
  · exact h.trans (within_retire _)
  · exact h.trans (within_retire _)
  all_goals exact h

theorem within_leaveLockout (s : State) : Tidy gensetPieces s s.leaveLockout := by
  unfold State.leaveLockout State.unlocked
  split
  · split
    · exact ((within_onGs s _).mono (by decide)).trans ((within_raise _ _).mono (by decide))
    · split
      · exact ((within_raise s _).mono (by decide)).trans (within_enterStopped _)
      · exact (((within_raise s _).mono (by decide)).trans ((within_command _ _ _ _).mono (by decide))).trans
          (within_enterStopped _)
      · exact ((within_raise s _).mono (by decide)).trans (within_enterCooldown _)
      · exact Tidy.refl _ s
  · exact ((within_onGs s _).mono (by decide)).trans ((within_raise _ _).mono (by decide))

theorem within_serviceStart (s : State) : Tidy gensetPieces s s.serviceStart :=
  Tidy.ite (within_startEngine s _) (Tidy.refl _ s)

/-! ### The other units -/

theorem within_offerRegen (s : State) : Tidy [.blend, .ports] s s.offerRegen := by
  unfold State.offerRegen
  dsimp only
  refine Tidy.ite ?_ (Tidy.refl _ s)
  exact ((within_submit s _ _).mono (by decide)).trans ((within_blend _ _).mono (by decide))

theorem within_offerFriction (s : State) : Tidy [.blend, .ports] s s.offerFriction := by
  unfold State.offerFriction
  dsimp only
  refine Tidy.ite ?_ (Tidy.refl _ s)
  exact ((within_submit s _ _).mono (by decide)).trans ((within_blend _ _).mono (by decide))

theorem within_blendRun (s : State) (b : Bool) : Tidy [.blend, .ports, .signals] s (s.blendRun b) := by
  unfold State.blendRun
  dsimp only
  refine Tidy.trans ?_ ((within_offerFriction _).mono (by decide))
  refine Tidy.trans ?_ ((within_offerRegen _).mono (by decide))
  refine Tidy.trans ?_ ((within_blend _ _).mono (by decide))
  exact ((within_raise s _).mono (by decide))

theorem within_driveLines (s : State) : Tidy [.aux] s s.driveLines := by
  unfold State.driveLines
  split
  · exact Tidy.refl _ s
  · exact within_aux s _

theorem within_deriveMode (s : State) : Tidy [.aux] s s.deriveMode := by
  unfold State.deriveMode
  exact Tidy.ite (Tidy.refl _ s) (((within_aux s _).trans (within_driveLines _)).mono (by decide))

/-- What a derivation can do (R87, R92): the mode is that of the gate and the contract, the allowances stand, and the lines are driven
afresh exactly when it is another mode. -/
theorem State.deriveMode_aux (s : State) :
    s.deriveMode.aux.mode = s.cu.drivelineMode ∧ s.deriveMode.aux.allowances = s.aux.allowances ∧
      (s.aux.mode = s.cu.drivelineMode → s.deriveMode = s) ∧
      (s.aux.mode ≠ s.cu.drivelineMode →
        s.deriveMode = ({ s with aux := { s.aux with mode := s.cu.drivelineMode } } : State).driveLines) := by
  unfold State.deriveMode
  split
  · next h => exact ⟨h.symm, rfl, fun _ => rfl, fun g => absurd h.symm g⟩
  · next h =>
    refine ⟨?_, ?_, fun g => absurd g.symm h, fun _ => rfl⟩ <;> unfold State.driveLines <;> split <;> rfl

theorem within_auxChanged (s : State) : Tidy [.aux, .signals] s s.auxChanged :=
  ((within_aux s _).mono (by decide)).trans ((within_raise _ _).mono (by decide))

theorem within_setWheels (s : State) (x : Six WheelEnd) : Tidy [.wear, .signals] s (s.setWheels x) := by
  unfold State.setWheels
  dsimp only
  refine Tidy.trans ?_ (((within_handLevels _ _).mono (by decide)).trans ((within_raiseIf _ _ _).mono (by decide)))
  exact ((within_wear s _).mono (by decide))

theorem within_setBattery (s : State) (b : BatteryRecord) : Tidy [.wear, .signals] s (s.setBattery b) := by
  unfold State.setBattery
  dsimp only
  refine Tidy.trans ?_ (((within_raiseIf _ _ _).mono (by decide)).trans ((within_raiseIf _ _ _).mono (by decide)))
  exact ((within_wear s _).mono (by decide))

theorem within_setEngine (s : State) (e : EngineRecord) : Tidy [.wear, .signals] s (s.setEngine e) := by
  unfold State.setEngine
  dsimp only
  refine Tidy.trans ?_ (((within_raiseIf _ _ _).mono (by decide)).trans ((within_raiseIf _ _ _).mono (by decide)))
  exact ((within_wear s _).mono (by decide))

theorem within_requestWearSave (s : State) : Tidy [.store] s s.requestWearSave := by
  unfold State.requestWearSave
  split <;> exact within_store s _

theorem within_refreshWarnings (s : State) : Tidy [.warn] s s.refreshWarnings := within_warn s _

theorem within_deliver (s : State) (c : Nat) : Tidy [.ports] s (s.deliver c) := by
  unfold State.deliver
  split
  · exact Tidy.refl _ s
  · generalize Port.all = ps
    suffices h : ∀ t, Tidy [.ports] s t → Tidy [.ports] s (ps.foldl _ t) from h s (Tidy.refl _ s)
    induction ps with
    | nil => exact fun t h => h
    | cons p ps ih => exact fun t h => ih _ (h.trans (Tidy.ite (within_submit _ _ _) (Tidy.refl _ _)))

theorem within_setLevel (s : State) (c : Nat) (b : Bool) : Tidy [.warn, .ports] s (s.setLevel c b) := by
  unfold State.setLevel
  dsimp only
  refine Tidy.ite (Tidy.refl _ s) ?_
  refine ((within_warn s _).mono (by decide)).trans (Tidy.ite ?_ (Tidy.refl _ _))
  refine Tidy.trans ?_ (((within_deliver _ _).mono (by decide)).trans ((within_refreshWarnings _).mono (by decide)))
  exact ((within_warn _ _).mono (by decide))

theorem within_takeLevels (s : State) (l : List OwnerLevel) : Tidy [.warn, .ports] s (s.takeLevels l) := by
  unfold State.takeLevels
  induction l generalizing s with
  | nil => exact Tidy.refl _ s
  | cons a l ih => exact (within_setLevel s _ _).trans (ih _)

theorem within_endWrite (s : State) (ok : Bool) : Tidy [.store, .signals, .freeCount] s (s.endWrite ok) := by
  unfold State.endWrite
  split
  · exact ((within_raiseIf s _ _).mono (by decide)).trans ((within_store _ _).mono (by decide))
  · exact ((within_raiseIf s _ _).mono (by decide)).trans ((within_storeFree _ _ _).mono (by decide))
  · exact ((within_raiseIf s _ _).mono (by decide)).trans ((within_store _ _).mono (by decide))
  · exact ((within_raiseIf s _ _).mono (by decide)).trans ((within_storeFree _ _ _).mono (by decide))
  · exact Tidy.refl _ s
  · exact Tidy.refl _ s

theorem within_beginPendingSave (s : State) : Tidy [.store] s s.beginPendingSave :=
  Tidy.ite (within_store s _) (Tidy.refl _ s)

theorem within_validFrame (s : State) (p : Port) (i : Option Instr) : Tidy [.ports, .signals] s (s.validFrame p i) := by
  unfold State.validFrame
  dsimp only
  refine Tidy.trans ?_ (Tidy.ite (Tidy.refl _ _) ((within_portChanged _ _ _ _).mono (by decide)))
  exact (within_onPort s p fun h => take_lawful (by exact h) i).mono (by decide)

theorem within_inbound (s : State) (p : Port) (l : List Byte) : Tidy [.ports, .signals] s (s.inbound p l) := by
  unfold State.inbound
  split
  · exact Tidy.refl _ s
  · split
    · exact (within_onPort s p fun h => fail_lawful h _).mono (by decide)
    · exact within_validFrame s _ _

theorem within_selectFalls (s : State) (p : Port) : Tidy [.ports] s (s.selectFalls p) :=
  within_onPort s p fun h => by split <;> exact h

theorem within_selectRises (s : State) (p : Port) (l : List Byte) : Tidy [.ports, .signals] s (s.selectRises p l) := by
  unfold State.selectRises
  split
  · exact Tidy.refl _ s
  · exact ((within_onPort s p fun h => dispose_lawful h _ _).mono (by decide)).trans (within_inbound _ _ _)

theorem within_resetPort (s : State) (p : Port) : Tidy [.ports, .blend, .signals] s (s.resetPort p) := by
  unfold State.resetPort
  dsimp only
  refine Tidy.trans ?_ (((within_blend _ _).mono (by decide)).trans ((within_portChanged _ _ _ _).mono (by decide)))
  exact (within_onPort s p fun _ => portReset_lawful _).mono (by decide)

theorem within_emptyPorts (s : State) : Tidy [.ports, .blend] s s.emptyPorts := by
  unfold State.emptyPorts
  dsimp only
  refine Tidy.trans ?_ (((within_onPort _ _ fun _ => empty_lawful _).mono (by decide)).trans ((within_blend _ _).mono (by decide)))
  refine Tidy.trans ?_ ((within_onPort _ _ fun _ => empty_lawful _).mono (by decide))
  refine Tidy.trans ?_ ((within_onPort _ _ fun _ => empty_lawful _).mono (by decide))
  exact ((within_onPort s _ fun _ => empty_lawful _).mono (by decide))

theorem within_keyTaken (s : State) : Tidy keyPieces s s.keyTaken := by
  unfold State.keyTaken
  dsimp only
  refine Tidy.trans ?_ (((within_testGate _).mono (by decide)).trans ((within_evaluateStart _).mono (by decide)))
  exact ((within_store s _).mono (by decide))

theorem within_keyLost (s : State) : Tidy keyPieces s s.keyLost := by
  unfold State.keyLost
  dsimp only
  refine Tidy.trans ?_ (((within_store _ _).mono (by decide)).trans ((within_requestWearSave _).mono (by decide)))
  refine Tidy.trans ?_ ((within_raise _ _).mono (by decide))
  refine Tidy.trans ?_ ((within_sequencerKeyOff _).mono (by decide))
  exact ((within_contractKeyOff s).mono (by decide))

theorem within_drivelineReset (s : State) : Tidy (.gs :: .blend :: contractPieces) s s.drivelineReset := by
  unfold State.drivelineReset
  dsimp only
  refine Tidy.trans ?_ (((within_view _ _).mono (by decide)).trans ((within_sequencerReset _).mono (by decide)))
  refine Tidy.trans ?_ ((within_drop _ _).mono (by decide))
  exact ((within_emptyPorts s).mono (by decide))

/-! ### Written items (R162) -/

theorem within_writeChargeMarkOp (s : State) (m : ChargeMark) (v : Int) : Tidy (.settings :: contractPieces) s (s.writeChargeMarkOp m v) := by
  unfold State.writeChargeMarkOp
  refine Tidy.ite (Tidy.refl _ s) ?_
  refine Tidy.trans ?_ ((within_triggerIf _ _).mono (by decide))
  refine Tidy.trans ?_ ((within_evaluateNeed _).mono (by decide))
  exact (within_settings s _).mono (by decide)

theorem within_writeCriticalMarkOp (s : State) (v : Int) : Tidy (.settings :: gensetPieces) s (s.writeCriticalMarkOp v) := by
  unfold State.writeCriticalMarkOp
  dsimp only
  refine Tidy.trans ((within_settings s _).mono (by decide)) (Tidy.ite (Tidy.refl _ _) ((within_evaluateStart _).mono (by decide)))

theorem within_writeModeVectorOp (s : State) (m : Mode) (v : Int) : Tidy [.settings, .aux, .signals] s (s.writeModeVectorOp m v) := by
  unfold State.writeModeVectorOp
  dsimp only
  refine Tidy.ite (Tidy.refl _ s) ?_
  refine Tidy.trans ?_ (Tidy.ite ((within_driveLines _).mono (by decide)) (Tidy.refl _ _))
  refine Tidy.trans ?_ ((within_auxChanged _).mono (by decide))
  exact (within_settings s _).mono (by decide)

theorem within_writeRatedDrawOp (s : State) (m : Fin 8) (v : Int) : Tidy [.settings, .aux, .signals] s (s.writeRatedDrawOp m v) := by
  unfold State.writeRatedDrawOp
  dsimp only
  refine Tidy.ite (Tidy.refl _ s) ?_
  refine Tidy.trans ?_ ((within_auxChanged _).mono (by decide))
  exact (within_settings s _).mono (by decide)

theorem within_writePolarityOp (s : State) (m : Fin 8) (v : Int) : Tidy [.settings, .aux] s (s.writePolarityOp m v) :=
  Tidy.trans ((within_settings s _).mono (by decide)) ((within_driveLines _).mono (by decide))

theorem within_wheelsSaved (s : State) (x : Six WheelEnd) : Tidy [.wear, .signals, .store] s ((s.setWheels x).requestWearSave) :=
  Tidy.trans ((within_setWheels s _).mono (by decide)) ((within_requestWearSave _).mono (by decide))

theorem within_batterySaved (s : State) (x : BatteryRecord) : Tidy [.wear, .signals, .store] s ((s.setBattery x).requestWearSave) :=
  Tidy.trans ((within_setBattery s _).mono (by decide)) ((within_requestWearSave _).mono (by decide))

theorem within_engineSaved (s : State) (x : EngineRecord) : Tidy [.wear, .signals, .store] s ((s.setEngine x).requestWearSave) :=
  Tidy.trans ((within_setEngine s _).mono (by decide)) ((within_requestWearSave _).mono (by decide))

theorem within_writeHeatCapacityOp (s : State) (w : Wheel) (c : Bool) (v : Int) : Tidy [.settings, .wear, .signals] s (s.writeHeatCapacityOp w c v) :=
  Tidy.trans ((within_settings s _).mono (by decide)) ((within_setWheels _ _).mono (by decide))

theorem within_writeFadeThresholdOp (s : State) (v : Int) : Tidy [.settings, .wear, .signals] s (s.writeFadeThresholdOp v) :=
  Tidy.trans ((within_settings s _).mono (by decide)) ((within_setWheels _ _).mono (by decide))

theorem within_writeWarnGradeOp (s : State) (k : WarnGradeKind) (v : Int) : Tidy [.settings, .warn, .ports] s (s.writeWarnGradeOp k v) := by
  unfold State.writeWarnGradeOp
  refine Tidy.trans ?_ (t := { s with settings := s.settings.withWarnGrade k (writtenIn 1 7 v).value.toNat }) ?_
  · exact (within_settings s _).mono (by decide)
  · cases k <;> exact (within_takeLevels _ _).mono (by decide)

theorem within_writeMaskOp (s : State) (k : MaskTarget) (v : Int) : Tidy [.settings, .warn] s (s.writeMaskOp k v) := by
  cases k <;> exact Tidy.trans ((within_settings s _).mono (by decide)) ((within_refreshWarnings _).mono (by decide))

theorem within_writeItemOp (s t : State) (n : Nat) (c : Bool) (v : Int) (b : Bool) (h : s.writeItemOp n c v = some (t, b)) :
    Tidy ([.settings, .wear, .warn, .aux, .gs, .store, .svc] ++ contractPieces) s t := by
  have plain : (writeSetting s.settings n v).map (fun (x, c) => ({ s with settings := x }, c)) = some (t, b) →
      Tidy ([.settings, .wear, .warn, .aux, .gs, .store, .svc] ++ contractPieces) s t := by
    intro h
    rw [Option.map_eq_some_iff] at h
    obtain ⟨⟨x, y⟩, -, h2⟩ := h
    simp only [Prod.mk.injEq] at h2
    obtain ⟨rfl, -⟩ := h2
    exact (within_settings _ _).mono (by decide)
  have got : ∀ {u : State} {d : Bool} {l : List Piece}, Tidy l s u →
      l ⊆ ([.settings, .wear, .warn, .aux, .gs, .store, .svc] ++ contractPieces) → some (u, d) = some (t, b) →
      Tidy ([.settings, .wear, .warn, .aux, .gs, .store, .svc] ++ contractPieces) s t := by
    intro u d l w sub e
    cases e
    exact w.mono sub
  unfold State.writeItemOp at h
  generalize writeCommand n c v = i at h
  cases i
  case writeChargeMark => exact got (within_writeChargeMarkOp _ _ _) (by decide) h
  case writeCriticalMark => exact got (within_writeCriticalMarkOp _ _) (by decide) h
  case writeModeVector => exact got (within_writeModeVectorOp _ _ _) (by decide) h
  case writeRatedDraw => exact got (within_writeRatedDrawOp _ _ _) (by decide) h
  case writePolarity => exact got (within_writePolarityOp _ _ _) (by decide) h
  case writeFadeThreshold => exact got (within_writeFadeThresholdOp _ _) (by decide) h
  case writePadAccount => exact got (within_wheelsSaved _ _) (by decide) h
  case writePadLife => exact got (within_wheelsSaved _ _) (by decide) h
  case writeHeatCapacity => exact got (within_writeHeatCapacityOp _ _ _ _) (by decide) h
  case writeBatteryAccount => exact got (within_batterySaved _ _) (by decide) h
  case writeBatteryLife => exact got (within_batterySaved _ _) (by decide) h
  case writeEngineAccount => exact got (within_engineSaved _ _) (by decide) h
  case writeEngineLife => exact got (within_engineSaved _ _) (by decide) h
  case writeWarnGrade => exact got (within_writeWarnGradeOp _ _ _) (by decide) h
  case writeDeliveryMask => exact got (within_writeMaskOp _ _ _) (by decide) h
  all_goals exact plain h

end Sys2Proof.Machine
end

