-- ==== Sys2Proof/Laws/Selection.lean ====
section
/-! SUPPORT. Offer selection: what the list of candidates holds, what its best element is, and that the terms formed are lawful. -/

namespace Sys2Proof.Machine

/-! ### Lists of offers (R7) -/

/-- The entries of `indexed` are those of the list that pass the test, at their places counted on from `n`. -/
theorem mem_indexed {keep : Offer → Bool} {n : Nat} {os : List Offer} {j : Nat} {o : Offer} :
    (j, o) ∈ indexed keep n os ↔ ∃ k, os[k]? = some o ∧ j = n + k ∧ keep o = true := by
  induction os generalizing n with
  | nil => simp [indexed]
  | cons a os ih =>
    have step : (∃ k, (a :: os)[k]? = some o ∧ j = n + k ∧ keep o = true) ↔
        (a = o ∧ j = n ∧ keep o = true) ∨ ∃ k, os[k]? = some o ∧ j = n + 1 + k ∧ keep o = true := by
      constructor
      · rintro ⟨k, hk, rfl, ho⟩
        cases k with
        | zero => exact .inl ⟨by simpa using hk, rfl, ho⟩
        | succ k => exact .inr ⟨k, by simpa using hk, by omega, ho⟩
      · rintro (⟨rfl, rfl, ho⟩ | ⟨k, hk, rfl, ho⟩)
        · exact ⟨0, rfl, rfl, ho⟩
        · exact ⟨k + 1, by simpa using hk, by omega, ho⟩
    rw [step, indexed]
    split
    · next h =>
      rw [List.mem_cons, ih, Prod.mk.injEq]
      refine or_congr ⟨?_, ?_⟩ Iff.rfl
      · rintro ⟨rfl, rfl⟩; exact ⟨rfl, rfl, h⟩
      · rintro ⟨rfl, rfl, -⟩; exact ⟨rfl, rfl⟩
    · next h =>
      rw [ih]
      exact ⟨.inr, fun g => g.resolve_left fun ⟨e, _, k⟩ => h (e ▸ k)⟩

/-! ### Candidates (R26, R27) -/

/-- A candidate is that of a usable storage offer alone, or of one with a usable genset offer and a commitment above 0. -/
theorem mem_candidates {x : Inputs} {online : Bool} {c : Candidate} :
    c ∈ x.candidates online ↔
      ∃ i o, x.storage[i]? = some o ∧ o.usableStorage x.quiet = true ∧
        (c = x.alone (i + 1) o ∨
          online = true ∧ ∃ j g, x.genset[j]? = some g ∧ g.usableGenset x.quiet = true ∧
            c = x.paired (i + 1) o (j + 1) g ∧ c.commitment ≠ 0) := by
  unfold Inputs.candidates
  simp only [List.mem_flatMap, List.mem_cons, List.mem_filter, List.mem_map, Prod.exists]
  constructor
  · rintro ⟨i, o, hi, h⟩
    obtain ⟨k, hk, rfl, hu⟩ := mem_indexed.1 hi
    refine ⟨k, o, hk, hu, ?_⟩
    rcases h with h | ⟨⟨j, g, hj, hc⟩, hn⟩
    · exact .inl (by rw [h, Nat.add_comm])
    · cases online with
      | false => simp at hj
      | true =>
        simp only [if_true] at hj
        obtain ⟨l, hl, rfl, hg⟩ := mem_indexed.1 hj
        exact .inr ⟨rfl, l, g, hl, hg, by rw [← hc, Nat.add_comm, Nat.add_comm l], by simpa using hn⟩
  · rintro ⟨k, o, hk, hu, h⟩
    refine ⟨k + 1, o, mem_indexed.2 ⟨k, hk, by omega, hu⟩, ?_⟩
    rcases h with h | ⟨rfl, j, g, hj, hg, hc, hn⟩
    · exact .inl h
    · exact .inr ⟨⟨j + 1, g, by simpa using mem_indexed.2 ⟨j, hj, by omega, hg⟩, hc.symm⟩, by simpa using hn⟩

/-- The figures of a candidate balance (R27), its genset power is 0 with no genset offer, and its commitment is within it. -/
structure Candidate.sound (x : Inputs) (c : Candidate) : Prop where
  balance : x.req + c.aux + c.charge = c.share + c.commitment
  names : c.gensetIndex.isSome = true ↔ c.commitment ≠ 0
  power : c.gensetIndex = none → c.gPower = 0
  within : c.commitment ≤ c.gPower
  charged : c.charge ≤ c.commitment
  charging : c.charge ≤ x.chargeTarget
  covered : c.covered = true ↔ c.share ≤ c.eff
  short : c.covered = false → c.charge = 0 ∧ c.commitment = c.gPower

theorem candidate_sound {x : Inputs} {online : Bool} {c : Candidate} (h : c ∈ x.candidates online) : c.sound x := by
  obtain ⟨i, o, -, -, rfl | ⟨-, j, g, -, -, rfl, hn⟩⟩ := mem_candidates.1 h
  · exact ⟨by simp [Inputs.alone], by simp [Inputs.alone], fun _ => rfl, Nat.zero_le _, Nat.zero_le _, Nat.zero_le _,
      by simp [Inputs.alone], fun _ => ⟨rfl, rfl⟩⟩
  · have p : ∀ d G : Nat, x.req + x.aux.get (candidateMode x.req true) = d → g.power = G →
        (x.paired (i + 1) o (j + 1) g).commitment = (if d ≤ G then d + min x.chargeTarget (G - d) else G) ∧
        (x.paired (i + 1) o (j + 1) g).charge = (if d ≤ G then min x.chargeTarget (G - d) else 0) := by
      rintro d G rfl rfl
      simp only [Inputs.paired]
      exact ⟨by split <;> simp_all, trivial⟩
    obtain ⟨p1, p2⟩ := p _ _ rfl rfl
    refine ⟨?_, ?_, ?_, ?_, ?_, ?_, ?_, ?_⟩
    · rw [p1, p2]; simp only [Inputs.paired]; split <;> omega
    · exact ⟨fun _ => hn, fun _ => rfl⟩
    · simp [Inputs.paired]
    · rw [p1]; simp only [Inputs.paired]; split <;> omega
    · rw [p1, p2]; split <;> omega
    · rw [p2]; split <;> omega
    · simp [Inputs.paired]
    · intro hc
      have : ¬ x.req + x.aux.get (candidateMode x.req true) - g.power ≤ derated x.derate o.power := by
        simpa [Inputs.paired] using hc
      rw [p1, p2, if_neg (by omega), if_neg (by omega)]
      exact ⟨rfl, rfl⟩

/-! ### The best candidate (R28) -/

/-- Before in the order of keys is irreflexive, transitive and total on keys of one length. -/
theorem lexBefore_irrefl (a : List Int) : lexBefore a a = false := by
  induction a with
  | nil => rfl
  | cons x a ih => simp [lexBefore, ih]

theorem lexBefore_trans {a b c : List Int} (h : lexBefore a b = true) (g : lexBefore b c = true) :
    lexBefore a c = true := by
  induction a generalizing b c with
  | nil => simp [lexBefore] at h
  | cons x a ih =>
    cases b with
    | nil => simp [lexBefore] at h
    | cons y b =>
      cases c with
      | nil => simp [lexBefore] at g
      | cons z c =>
        simp only [lexBefore] at h g ⊢
        split at h
        · split at g
          · rw [if_pos (by omega)]
          · split at g
            · cases g
            · rw [if_pos (by omega)]
        · split at h
          · cases h
          · split at g
            · rw [if_pos (by omega)]
            · split at g
              · cases g
              · rw [if_neg (by omega), if_neg (by omega)]; exact ih h g

theorem bestBy_mem {keys : Candidate → List Int} {cs : List Candidate} {c : Candidate} (h : bestBy keys cs = some c) :
    c ∈ cs := by
  induction cs generalizing c with
  | nil => cases h
  | cons a cs ih =>
    rw [bestBy] at h
    split at h
    · cases h; exact List.mem_cons_self
    · next d hd =>
      split at h
      · cases h; exact List.mem_cons_of_mem _ (ih hd)
      · cases h; exact List.mem_cons_self

theorem bestBy_none {keys : Candidate → List Int} {cs : List Candidate} (h : bestBy keys cs = none) : cs = [] := by
  cases cs with
  | nil => rfl
  | cons a cs =>
    rw [bestBy] at h
    split at h
    · cases h
    · split at h <;> cases h

/-- A third list of keys of the same length lies before the later of two, or after the earlier. -/
theorem lexBefore_between {a b c : List Int} (ab : a.length = b.length) (bc : b.length = c.length)
    (h : lexBefore a c = true) : lexBefore a b = true ∨ lexBefore b c = true := by
  induction a generalizing b c with
  | nil => simp [lexBefore] at h
  | cons x a ih =>
    cases b with
    | nil => simp at ab
    | cons y b =>
      cases c with
      | nil => simp at bc
      | cons z c =>
        simp only [List.length_cons, Nat.add_right_cancel_iff] at ab bc
        simp only [lexBefore] at h ⊢
        by_cases xy : x < y
        · exact .inl (if_pos xy)
        · by_cases yz : y < z
          · exact .inr (if_pos yz)
          · by_cases yx : y < x
            · rw [if_neg (by omega), if_pos (by omega)] at h; cases h
            · by_cases zy : z < y
              · rw [if_neg (by omega), if_pos (by omega)] at h; cases h
              · rw [if_neg (by omega), if_neg (by omega)] at h
                rw [if_neg xy, if_neg yx, if_neg yz, if_neg zy]
                exact ih ab bc h

/-- Nothing in the list comes before its best element. -/
theorem bestBy_first {keys : Candidate → List Int} {n : Nat} (len : ∀ c, (keys c).length = n) {cs : List Candidate}
    {c : Candidate} (h : bestBy keys cs = some c) {d : Candidate} (hd : d ∈ cs) : lexBefore (keys d) (keys c) = false := by
  induction cs generalizing c d with
  | nil => cases hd
  | cons a cs ih =>
    rw [bestBy] at h
    split at h
    · next hn =>
      cases h
      rw [bestBy_none hn] at hd
      rw [List.mem_singleton.1 hd]
      exact lexBefore_irrefl _
    · next b hb =>
      have step : ∀ e, lexBefore (keys e) (keys c) = true → lexBefore (keys e) (keys b) = true ∨ lexBefore (keys b) (keys c) = true :=
        fun e => lexBefore_between ((len e).trans (len b).symm) ((len b).trans (len c).symm)
      split at h
      · next hlt =>
        cases h
        rcases List.mem_cons.1 hd with rfl | hd
        · cases e : lexBefore (keys d) (keys c) with
          | false => rfl
          | true => exact absurd (lexBefore_trans e hlt) (by rw [lexBefore_irrefl]; simp)
        · exact ih hb hd
      · next hlt =>
        cases h
        rcases List.mem_cons.1 hd with rfl | hd
        · exact lexBefore_irrefl _
        · cases e : lexBefore (keys d) (keys a) with
          | false => rfl
          | true =>
            rcases step d e with e | e
            · rw [ih hb hd] at e; cases e
            · exact absurd e hlt

/-! ### The terms formed are lawful (R29, R31, R40) -/

theorem coveredTerms_lawful {x : Inputs} {c : Candidate} (h : c.sound x) : (x.coveredTerms c).lawful :=
  ⟨h.balance, h.names, h.charged⟩

theorem shortTerms_lawful {x : Inputs} {c : Candidate} (h : c.sound x) (u : c.covered = false) (a : c.aux ≤ c.sum) :
    (x.shortTerms c).lawful := by
  have b := h.balance
  have s := h.short u
  have k : ¬ c.share ≤ c.eff := fun k => by rw [h.covered.2 k] at u; cases u
  have n := h.names
  simp only [Candidate.sum] at a
  refine ⟨?_, ?_, ?_⟩
  · simp only [Inputs.shortTerms, Candidate.sum]; omega
  · simp only [Inputs.shortTerms, Candidate.sum]
    rw [n]; omega
  · exact Nat.zero_le _

/-- The terms a pass forms are lawful, the share within the effective power and the commitment within the genset power of the
candidate they come from. -/
theorem pass_lawful {x : Inputs} {online : Bool} {t : Terms} (h : (x.pass online).result = .ok t) : t.lawful := by
  simp only [Inputs.pass, Inputs.choose] at h
  split at h
  · next c hc =>
    cases h
    exact coveredTerms_lawful (candidate_sound (List.mem_filter.1 (bestBy_mem hc)).1)
  · next hn =>
    split at h
    · next c hc =>
      cases h
      obtain ⟨hm, ha⟩ := List.mem_filter.1 (bestBy_mem hc)
      refine shortTerms_lawful (candidate_sound hm) ?_ (by simpa using ha)
      have e := bestBy_none hn
      rw [List.filter_eq_nil_iff] at e
      simpa using e c hm
    · cases h

end Sys2Proof.Machine
end

