-- ==== Sys2Proof/Laws/Protocol.lean ====
section
/-! SUPPORT. The operations of the Contract Unit keep its record lawful, and leave nothing of the protocol standing unless the
gate is OPEN. -/

namespace Sys2Proof.Machine

/-- Both laws of the Contract Unit's record. -/
structure ContractUnit.sound (c : ContractUnit) : Prop where
  lawful : c.lawful
  rests : c.restsUnlessOpen

/-! ### Lawful records (R40, R41) -/

/-- A record with the same contract, proposal and counter. -/
theorem ContractUnit.lawful_same {c d : ContractUnit} (h : c.lawful) (a : d.active = c.active)
    (p : d.proposal = c.proposal) (n : d.counter = c.counter) : d.lawful :=
  ⟨fun x e => h.active x (a ▸ e), fun x e => h.proposal x (p ▸ e),
    fun x y e f => h.differ x y (a ▸ e) (p ▸ f), n ▸ h.counter⟩

/-- A record whose proposal is gone. -/
theorem ContractUnit.lawful_noProposal {c d : ContractUnit} (h : c.lawful) (a : d.active = c.active)
    (p : d.proposal = none) (n : d.counter = c.counter) : d.lawful :=
  ⟨fun x e => h.active x (a ▸ e), fun x e => (by rw [p] at e; cases e), fun x y _ f => (by rw [p] at f; cases f),
    n ▸ h.counter⟩

theorem numberLawful_advance (n : Nat) : numberLawful (advance n) := by
  unfold numberLawful advance; split <;> omega

theorem advance_ne {n : Nat} (h : n ≤ 255) : advance n ≠ n := by
  unfold advance; split <;> omega

/-- The next number is a lawful one, and not the active contract's (R41). -/
theorem ContractUnit.nextNumber_lawful (c : ContractUnit) :
    numberLawful c.nextNumber ∧ ∀ a, c.active = some a → a.number ≠ c.nextNumber := by
  unfold ContractUnit.nextNumber
  dsimp only
  split
  · next h => exact ⟨numberLawful_advance _, fun a e => by rw [h] at e; cases e⟩
  · next x h =>
    split
    · next e =>
      refine ⟨numberLawful_advance _, fun a g => ?_⟩
      rw [h] at g
      cases g
      rw [← e]
      exact fun k => advance_ne (numberLawful_advance c.counter).2 k.symm
    · next e =>
      refine ⟨numberLawful_advance _, fun a g => ?_⟩
      rw [h] at g
      cases g
      exact fun k => e k.symm

/-- The pending proposal is made of lawful terms (R43). -/
theorem propose_sound {s : State} (h : s.cu.lawful) (o : s.cu.gate = .opened) {t : Terms} (ht : t.lawful) (n : Nat) :
    (s.propose n t).cu.sound := by
  obtain ⟨k, d⟩ := s.cu.nextNumber_lawful
  rw [State.propose_cu]
  refine ⟨⟨h.active, ?_, ?_, k.2⟩, fun g => absurd o g⟩
  · intro p e; cases e; exact ⟨ht, k⟩
  · intro a p e f; cases f; exact d a e

/-- A drop leaves nothing standing (R36, R39, R60). -/
theorem drop_sound {s : State} (h : s.cu.lawful) (r : DropReason) : (s.drop r).cu.sound := by
  rw [State.drop_cu]
  refine ⟨⟨?_, ?_, ?_, h.counter⟩, fun _ => ⟨rfl, rfl, rfl, rfl, rfl, rfl, rfl, rfl⟩⟩
  · intro a e; cases e
  · intro a e; cases e
  · intro a p e; cases e

/-- An open gate asks nothing of the rest of the record. -/
theorem ContractUnit.sound_of_open {c : ContractUnit} (h : c.lawful) (o : c.gate = .opened) : c.sound :=
  ⟨h, fun g => absurd o g⟩

/-! ### Runs and rounds -/

theorem runOutcome_lawful {s : State} {t : Terms} (h : s.runOutcome = .propose t) : t.lawful := by
  unfold State.runOutcome outcomeOf at h
  split at h
  · cases h
  · next u e =>
    split at h
    · cases h; exact pass_lawful e
    · split at h
      · cases h
      · cases h; exact pass_lawful e

theorem runRecords_lawful {s : State} (h : s.cu.lawful) : s.runRecords.cu.lawful :=
  ContractUnit.lawful_same h (by simp) (by simp) (by simp)

theorem noneOutcome_sound {s : State} (h : s.cu.lawful) (o : s.cu.gate = .opened) (r : SelectionReason) :
    (s.noneOutcome r).1.cu.sound := by
  unfold State.noneOutcome
  split
  · exact ContractUnit.sound_of_open (ContractUnit.lawful_noProposal h rfl rfl rfl) o
  · split
    · exact ContractUnit.sound_of_open (ContractUnit.lawful_noProposal h rfl rfl rfl) o
    · exact drop_sound h _

theorem runClear_sound {s : State} (h : s.cu.lawful) (o : s.cu.gate = .opened) : s.runClear.cu.sound := by
  have h' := runRecords_lawful h
  have o' : s.runRecords.cu.gate = .opened := by simpa using o
  unfold State.runClear
  dsimp only
  split
  · next t e => exact propose_sound h' o' (runOutcome_lawful e) 1
  · exact ContractUnit.sound_of_open h' o'
  · exact noneOutcome_sound h' o' _

theorem actOnFlag_sound {s : State} (h : s.cu.sound) : s.actOnFlag.cu.sound := by
  unfold State.actOnFlag
  split
  · next f =>
    have o : s.cu.gate = .opened := by
      by_contra g
      have := (h.rests g).2.2.2.1
      simp_all
    exact runClear_sound (s := s.onCu fun c => { c with settled := false }) (ContractUnit.lawful_same h.lawful rfl rfl rfl) o
  · exact h

theorem runIdle_sound {s : State} (h : s.cu.lawful) (o : s.cu.gate = .opened) : s.runIdle.cu.sound := by
  have h' := runRecords_lawful h
  have o' : s.runRecords.cu.gate = .opened := by simpa using o
  unfold State.runIdle
  dsimp only
  split
  · next t e => exact propose_sound h' o' (runOutcome_lawful e) 1
  · exact ContractUnit.sound_of_open h' o'
  · split
    · exact actOnFlag_sound (noneOutcome_sound h' o' _)
    · exact noneOutcome_sound h' o' _

theorem endRound_sound {s : State} (h : s.cu.lawful) (o : s.cu.gate = .opened) : s.endRound.cu.sound := by
  unfold State.endRound
  split
  · exact ContractUnit.sound_of_open (ContractUnit.lawful_noProposal h rfl rfl rfl) o
  · exact actOnFlag_sound (ContractUnit.sound_of_open (ContractUnit.lawful_noProposal h rfl rfl rfl) o)

theorem runInRound_sound {s : State} (h : s.cu.lawful) (o : s.cu.gate = .opened) (n : Nat) : (s.runInRound n).cu.sound := by
  have h' := runRecords_lawful h
  have o' : s.runRecords.cu.gate = .opened := by simpa using o
  unfold State.runInRound
  dsimp only
  split
  · next t e => exact propose_sound h' o' (runOutcome_lawful e) _
  · exact endRound_sound h' o'
  · split
    · exact actOnFlag_sound (noneOutcome_sound h' o' _)
    · exact noneOutcome_sound h' o' _

theorem isOpen_iff {s : State} : s.isOpen = true ↔ s.cu.gate = .opened := by
  simp [State.isOpen]

theorem trigger_sound {s : State} (h : s.cu.sound) : s.trigger.cu.sound := by
  unfold State.trigger
  split
  · next o =>
    have o := isOpen_iff.1 o
    split
    · exact runIdle_sound h.lawful o
    · exact ContractUnit.sound_of_open (ContractUnit.lawful_same h.lawful (by simp) (by simp) (by simp)) (by simpa using o)
    · exact ContractUnit.sound_of_open (ContractUnit.lawful_same h.lawful (by simp) (by simp) (by simp)) (by simpa using o)
  · exact h

theorem triggerIf_sound {s : State} (h : s.cu.sound) (b : Bool) : (s.triggerIf b).cu.sound := by
  unfold State.triggerIf; split
  · exact trigger_sound h
  · exact h

theorem withdraw_sound {s : State} (h : s.cu.sound) : s.withdraw.cu.sound := by
  unfold State.withdraw
  split
  · exact h
  · next p e =>
    rw [State.notify_cu]
    refine ⟨ContractUnit.lawful_noProposal h.lawful rfl rfl rfl, fun g => ?_⟩
    obtain ⟨a, b, c, d, e, f, g, i⟩ := h.rests g
    exact ⟨a, rfl, rfl, d, rfl, f, g, i⟩

theorem openGate_sound {s : State} (h : s.cu.lawful) : s.openGate.cu.sound := by
  unfold State.openGate
  refine trigger_sound ?_
  rw [State.levelsFrom_cu]
  exact ContractUnit.sound_of_open (ContractUnit.lawful_same h rfl rfl rfl) rfl

theorem testGate_sound {s : State} (h : s.cu.sound) : s.testGate.cu.sound := by
  unfold State.testGate
  split
  · exact h
  · split
    · exact openGate_sound h.lawful
    · exact h
  · split
    · exact openGate_sound h.lawful
    · exact h

/-! ### Changes of the active contract -/

/-- The active contract given other lawful terms. -/
theorem setTerms_sound {s : State} (h : s.cu.sound) {c : Contract} (e : s.cu.active = some c) {t : Terms}
    (ht : t.lawful) : (s.setTerms c t).cu.sound := by
  have o : s.cu.gate = .opened := by
    by_contra g
    rw [(h.rests g).1] at e
    cases e
  have n := (h.lawful.active c e).2
  have f : ∀ a, (s.setTerms c t).cu.active = some a → a = { c with terms := t } := by
    intro a e; exact (Option.some.inj e).symm
  refine ContractUnit.sound_of_open ⟨?_, h.lawful.proposal, ?_, h.lawful.counter⟩ o
  · intro a ea
    rw [f a ea]
    exact ⟨ht, n⟩
  · intro a p ea ep
    rw [f a ea]
    exact h.lawful.differ c p e ep

theorem revise_sound {s : State} (h : s.cu.sound) : s.revise.cu.sound := by
  unfold State.revise
  split
  · exact h
  · next c e =>
    dsimp only
    split
    · simpa using h
    · rw [State.raiseIf_cu]
      have := setTerms_sound (s := s.usedInputs) (by simpa using h) (by simpa using e)
        (Terms.refit_lawful (h.lawful.active c e).1 s.acceptance s.settings.regenCap)
      split <;> simpa using this

theorem reduceTo_sound {s : State} (h : s.cu.sound) {c : Contract} (e : s.cu.active = some c) {t : Terms}
    (ht : t.lawful) (a g : Nat) : (s.reduceTo c t a g).cu.sound := by
  unfold State.reduceTo
  split
  · exact drop_sound (by simpa using h.lawful) _
  · next u eu =>
    dsimp only
    rw [State.raiseIf_cu]
    have := setTerms_sound (s := s.usedInputs) (by simpa using h) (by simpa using e) (Terms.reduce_lawful ht eu)
    split <;> simpa using this

theorem reduceIf_sound {s : State} (h : s.cu.sound) (b : Terms → Bool) (a g : Terms → Nat) :
    (s.reduceIf b a g).cu.sound := by
  unfold State.reduceIf
  split
  · exact h
  · next c e =>
    split
    · exact reduceTo_sound h e (h.lawful.active c e).1 _ _
    · exact h

theorem reduceAtPeak_sound {s : State} (h : s.cu.sound) : s.reduceAtPeak.cu.sound := by
  unfold State.reduceAtPeak
  split
  · exact h
  · next c e =>
    have t := (h.lawful.active c e).1
    split
    · exact reduceTo_sound h e (Terms.lawful_with t _ _) _ _
    · exact reduceTo_sound h e (Terms.lawful_with t c.terms.storageIndex none) _ _

theorem refreshPeak_sound {s : State} (h : s.cu.sound) : s.refreshPeak.cu.sound := by
  unfold State.refreshPeak
  split
  · exact h
  · next c e =>
    have o : s.cu.gate = .opened := by
      by_contra g
      rw [(h.rests g).1] at e
      cases e
    dsimp only
    generalize (entryAt s.view.storage c.terms.storageIndex).bind (·.duration) = d
    have k : (s.onCu fun u =>
        match d with
        | some d => { u with peak := Timer.seconds d, peakSerial := s.view.storageSerial }
        | none => { u with peak := .stopped }).cu.sound := by
      cases d <;> exact ContractUnit.sound_of_open (ContractUnit.lawful_same h.lawful rfl rfl rfl) o
    split
    · exact k
    · rw [State.sendContract_cu]
      refine setTerms_sound k ?_ (Terms.lawful_with (h.lawful.active c e).1 c.terms.storageIndex d)
      cases d <;> exact e

/-! ### Activation and answers -/

theorem peakAtActivation_active (s : State) (r : Option Contract) (t : Terms) :
    (s.peakAtActivation r t).cu.active = s.cu.active ∧ (s.peakAtActivation r t).cu.proposal = s.cu.proposal ∧
      (s.peakAtActivation r t).cu.counter = s.cu.counter ∧ (s.peakAtActivation r t).cu.gate = s.cu.gate := by
  unfold State.peakAtActivation
  split
  · exact ⟨rfl, rfl, rfl, rfl⟩
  · dsimp only
    generalize (_ && _ && _) = b
    cases b <;> exact ⟨rfl, rfl, rfl, rfl⟩

theorem enact_sound {s : State} (h : s.cu.sound) (o : s.cu.gate = .opened) {p : Proposal} (ht : p.terms.lawful)
    (hn : numberLawful p.number) : (s.enact p).cu.sound := by
  have t := Terms.refit_lawful ht s.acceptance s.settings.regenCap
  have key : ∀ u : State, u.cu.active = some ⟨p.number, p.terms.refit s.acceptance s.settings.regenCap⟩ →
      u.cu.proposal = none → u.cu.counter = s.cu.counter → u.cu.gate = .opened → u.cu.sound := by
    intro u a q n g
    refine ContractUnit.sound_of_open ⟨?_, ?_, ?_, n ▸ h.lawful.counter⟩ g
    · intro x e; rw [a] at e; cases e; exact ⟨t, hn⟩
    · intro x e; rw [q] at e; cases e
    · intro x y e f; rw [q] at f; cases f
  unfold State.enact
  dsimp only
  rw [State.levelsFrom_cu, State.raise_cu, State.raiseIf_cu]
  have e : ∀ (b : Prop) [Decidable b] (u : State) (x : Terms), (if b then u.handCommitment x else u).cu = u.cu := by
    intro b _ u x; split <;> rfl
  rw [e, State.sendContract_cu]
  generalize hu : ({ s.usedInputs.onCu _ with view := _ } : State).setReference _ = u
  obtain ⟨a, q, n, g⟩ := peakAtActivation_active u s.cu.active (p.terms.refit s.acceptance s.settings.regenCap)
  have hcu : u.cu = { s.cu with
      active := some ⟨p.number, p.terms.refit s.acceptance s.settings.regenCap⟩
      proposal := none
      window := .stopped
      round := .idle } := by
    rw [← hu]; simp
  exact key _ (by rw [a, hcu]) (by rw [q, hcu]) (by rw [n, hcu]) (by rw [g, hcu]; exact o)

theorem activate_sound {s : State} (h : s.cu.sound) (o : s.cu.gate = .opened) {p : Proposal} (ht : p.terms.lawful)
    (hn : numberLawful p.number) : (s.activate p).cu.sound :=
  actOnFlag_sound (enact_sound h o ht hn)

theorem discard_sound {s : State} (h : s.cu.lawful) (o : s.cu.gate = .opened) (p : Proposal) (b : PartySet)
    (r : DeclineReason) : (s.discard p b r).cu.sound ∧ (s.discard p b r).cu.gate = .opened := by
  have e : (s.discard p b r).cu =
      { s.cu with proposal := none, window := .stopped, lastDecline := some ⟨b, r, p.number⟩ } := by
    simp [State.discard]
  rw [e]
  exact ⟨ContractUnit.sound_of_open (ContractUnit.lawful_noProposal h rfl rfl rfl) o, o⟩

theorem continueRound_sound {s : State} (h : s.cu.lawful) (o : s.cu.gate = .opened) (b : Bool) :
    (s.continueRound b).cu.sound := by
  unfold State.continueRound
  split
  · exact endRound_sound h o
  · split
    · split
      · exact endRound_sound h o
      · exact runInRound_sound h o _
    · exact endRound_sound h o
    · exact endRound_sound h o

end Sys2Proof.Machine
end

