-- ==== Sys2Proof/Laws/Sequencer.lean ====
section
/-! SUPPORT. The operations of the Genset Sequencer keep its record lawful: each timer in its own state only (R64, R68 to R76). -/

namespace Sys2Proof.Machine

/-- The idle-off timer runs only as R73 lets it. -/
def Sequencer.idleLawful (g : Sequencer) : Prop :=
  g.idleOff.isRunning = true → g.state = .online ∧ g.heldIndex = none ∧ g.wantedCopy = false

@[simp] theorem Timer.seconds_isRunning (n : Nat) : (Timer.seconds n).isRunning = true := rfl

@[simp] theorem Timer.tick_isRunning (t : Timer) : t.tick.isRunning = t.isRunning := by
  unfold Timer.tick; split <;> rfl

@[simp] theorem State.leaving_gs (s : State) (w : GensetState) : (s.leaving w).gs = s.gs :=
  (within_leaving s w).1 .gs (by decide)

theorem lockOut_lawful {s : State} (h : s.gs.attempts ≤ 3) (c : StopCause) (n : Option Nat) : (s.lockOut c n).gs.lawful := by
  simp only [State.lockOut, State.raise_gs, State.leaving_gs, State.onGs_gs]
  exact ⟨h, by simp [Sequencer.stopTimers, Sequencer.stopFor, Timer.isRunning],
    by simp [Sequencer.stopTimers, Sequencer.stopFor, Timer.isRunning],
    by simp [Sequencer.stopTimers, Sequencer.stopFor, Timer.isRunning],
    by simp [Sequencer.stopTimers, Sequencer.stopFor, Timer.isRunning],
    by simp [Sequencer.stopTimers, Sequencer.stopFor, Timer.isRunning]⟩

theorem startEngine_lawful {s : State} (h : s.gs.lawful) (e : s.gs.state = .stopped) (c : StartCause) :
    (s.startEngine c).gs.lawful := by
  obtain ⟨a, k, r, w, d, i⟩ := h
  simp only [e, reduceCtorEq, imp_false, Bool.not_eq_true, false_and] at k r w d i
  unfold State.startEngine
  split
  · rw [State.command_gs, State.onGs_gs]
    exact ⟨by dsimp only; omega, fun _ => rfl, by simp [r], by simp [w], by simp [d], by simp [i]⟩
  · rw [State.command_gs]; exact lockOut_lawful a _ _

theorem coolDown_lawful {s : State} (a : s.gs.attempts ≤ 3) (k : s.gs.crank.isRunning = false)
    (r : s.gs.rest.isRunning = false) (w : s.gs.warm.isRunning = false) (i : s.gs.idleOff.isRunning = false) :
    s.coolDown.gs.lawful := by
  simp only [State.coolDown, State.onGs_gs]
  exact ⟨a, by simp [k], by simp [r], by simp [w], by simp, by simp [i]⟩

theorem idleOffEnds_lawful {s : State} (h : s.gs.lawful) (e : s.gs.state = .online) (c : StopCause) :
    (s.idleOffEnds c).gs.lawful := by
  obtain ⟨a, k, r, w, d, i⟩ := h
  simp only [e, reduceCtorEq, imp_false, Bool.not_eq_true] at k r w d
  unfold State.idleOffEnds
  dsimp only
  rw [State.leaving_gs]
  exact coolDown_lawful a k r w rfl

/-- R73 applied to a record lawful but for the idle-off timer. -/
theorem applyIdleRule_lawful {s : State} (h : ({ s.gs with idleOff := .stopped } : Sequencer).lawful)
    (n : s.gs.idleOff.isRunning = true → s.gs.state = .online) : s.applyIdleRule.gs.lawful := by
  obtain ⟨a, k, r, w, d, -⟩ := h
  unfold State.applyIdleRule
  split
  · next e =>
    split
    · next f =>
      simp only [Bool.and_eq_true, Option.isNone_iff_eq_none, Bool.not_eq_true'] at f
      split
      · exact ⟨a, k, r, w, d, fun _ => ⟨e, f.1, f.2⟩⟩
      · next run =>
        split
        · exact idleOffEnds_lawful ⟨a, k, r, w, d, fun g => absurd g run⟩ e _
        · rw [State.onGs_gs]
          exact ⟨a, k, r, w, d, fun _ => ⟨e, f.1, f.2⟩⟩
    · rw [State.onGs_gs]
      exact ⟨a, k, r, w, d, by simp [Timer.isRunning]⟩
  · next e => exact ⟨a, k, r, w, d, fun g => absurd (n g) e⟩

theorem Sequencer.lawful_idleStopped {g : Sequencer} (h : g.lawful) : ({ g with idleOff := .stopped } : Sequencer).lawful :=
  ⟨h.attempts, h.crank, h.rest, h.warm, h.cooldown, by simp [Timer.isRunning]⟩

theorem applyIdleRule_lawful' {s : State} (h : s.gs.lawful) : s.applyIdleRule.gs.lawful :=
  applyIdleRule_lawful (Sequencer.lawful_idleStopped h) fun g => (h.idleOff g).1

theorem enterOnline_lawful {s : State} (k : s.gs.crank.isRunning = false) (r : s.gs.rest.isRunning = false)
    (_i : s.gs.idleOff.isRunning = true → s.gs.state = .online) : s.enterOnline.gs.lawful := by
  unfold State.enterOnline
  refine applyIdleRule_lawful ?_ ?_
  · simp only [State.raise_gs, State.operate, State.command_gs, State.onGs_gs]
    exact ⟨by simp, by simp [k], by simp [r], by simp [Timer.isRunning], by simp [Timer.isRunning], by simp [Timer.isRunning]⟩
  · simp [State.operate]

theorem evaluateStart_lawful {s : State} (h : s.gs.lawful) : s.evaluateStart.gs.lawful := by
  have h' := h
  obtain ⟨a, k, r, w, d, i⟩ := h'
  unfold State.evaluateStart
  split
  · next e =>
    split
    · exact startEngine_lawful h e _
    · exact h
  · next e =>
    simp only [e, reduceCtorEq, imp_false, Bool.not_eq_true, false_and] at k r w i
    split
    · exact enterOnline_lawful k r (by simp [i])
    · exact h
  all_goals exact h

theorem enterStopped_lawful {s : State} (a : s.gs.attempts ≤ 3) (k : s.gs.crank.isRunning = false)
    (r : s.gs.rest.isRunning = false) (w : s.gs.warm.isRunning = false) (d : s.gs.cooldown.isRunning = false)
    (i : s.gs.idleOff.isRunning = false) : s.enterStopped.gs.lawful := by
  unfold State.enterStopped
  refine evaluateStart_lawful ?_
  rw [State.onGs_gs]
  exact ⟨a, by simp [k], by simp [r], by simp [w], by simp [d], by simp [i]⟩

theorem enterCooldown_lawful {s : State} (a : s.gs.attempts ≤ 3) (k : s.gs.crank.isRunning = false)
    (r : s.gs.rest.isRunning = false) (w : s.gs.warm.isRunning = false) (i : s.gs.idleOff.isRunning = false) :
    s.enterCooldown.gs.lawful := by
  unfold State.enterCooldown
  exact evaluateStart_lawful (coolDown_lawful a k r w i)

/-- No timer runs in a lawful record whose state has none. -/
theorem Sequencer.lawful_none {g : Sequencer} (h : g.lawful) (c : g.state ≠ .cranking) (r : g.state ≠ .resting)
    (w : g.state ≠ .warming) (o : g.state ≠ .online) (d : g.state ≠ .cooldown) :
    g.crank.isRunning = false ∧ g.rest.isRunning = false ∧ g.warm.isRunning = false ∧ g.cooldown.isRunning = false ∧
      g.idleOff.isRunning = false := by
  refine ⟨?_, ?_, ?_, ?_, ?_⟩ <;> rw [Bool.eq_false_iff] <;> intro k
  · exact c (h.crank k)
  · exact r (h.rest k)
  · exact w (h.warm k)
  · exact d (h.cooldown k)
  · exact o (h.idleOff k).1

theorem failed_lawful {s : State} (h : s.gs.lawful) (c : Option Nat) : (s.failed c).gs.lawful := by
  unfold State.failed
  rw [State.command_gs]
  exact lockOut_lawful h.attempts _ _

theorem crankEnds_lawful {s : State} (h : s.gs.lawful) (e : s.gs.state = .cranking) (coolant : Int) :
    (s.crankEnds coolant).gs.lawful := by
  obtain ⟨a, k, r, w, d, i⟩ := h
  simp only [e, reduceCtorEq, imp_false, Bool.not_eq_true, false_and] at r w d i
  unfold State.crankEnds
  dsimp only
  split
  · exact enterOnline_lawful rfl r (by simp [i])
  · rw [State.onGs_gs]
    exact ⟨a, by simp [Timer.isRunning], by simp [r], fun _ => rfl, by simp [d], by simp [i]⟩

theorem takeGensetReport_lawful {s : State} (h : s.gs.lawful) (c : EngineCondition) (k : Int) (f : Option Nat) :
    (s.takeGensetReport c k f).gs.lawful := by
  have none5 : s.gs.state = .unknown → _ := fun e =>
    Sequencer.lawful_none h (by simp [e]) (by simp [e]) (by simp [e]) (by simp [e]) (by simp [e])
  unfold State.takeGensetReport
  split <;> rename_i e <;> first
    | exact h
    | exact failed_lawful h _
    | exact crankEnds_lawful h e _
    | (obtain ⟨p, q, r, t, u⟩ := none5 e
       first
        | exact enterStopped_lawful h.attempts p q r t u
        | exact enterCooldown_lawful h.attempts p q r u)
    | skip
  · obtain ⟨a, k, r, w, d, i⟩ := h
    simp only [e, reduceCtorEq, imp_false, Bool.not_eq_true, false_and] at k r d i
    split
    · exact enterOnline_lawful k r (by simp [i])
    · exact ⟨a, by simp [k], by simp [r], w, by simp [d], by simp [i]⟩
  · obtain ⟨a, k, r, w, d, i⟩ := h
    simp only [e, reduceCtorEq, imp_false, Bool.not_eq_true, false_and] at k r w i
    exact enterStopped_lawful a k r w rfl i

theorem takeActivity_lawful {s : State} (h : s.gs.lawful) (a : ActivitySource) : (s.takeActivity a).gs.lawful := by
  unfold State.takeActivity
  rw [State.onGs_gs]
  refine ⟨h.attempts, h.crank, h.rest, h.warm, h.cooldown, fun g => ?_⟩
  dsimp only at g ⊢
  split at g
  · next b => exact h.idleOff (by simp only [Bool.and_eq_true] at b; exact b.1)
  · exact h.idleOff g

theorem zoneSet_lawful {s : State} (h : s.gs.lawful) : s.zoneSet.gs.lawful := by
  unfold State.zoneSet
  split
  · next r => exact idleOffEnds_lawful h (h.idleOff r).1 _
  · split
    · next e =>
      rw [State.onGs_gs]
      exact ⟨h.attempts, h.crank, h.rest, h.warm, fun _ => e, h.idleOff⟩
    · exact h

theorem sequencerKeyOff_lawful {s : State} (h : s.gs.lawful) : s.sequencerKeyOff.gs.lawful := by
  have h' := h
  obtain ⟨a, k, r, w, d, i⟩ := h'
  unfold State.sequencerKeyOff
  split <;> rename_i e <;>
    simp only [e, reduceCtorEq, imp_false, Bool.not_eq_true, false_and] at k r w d i <;> first
    | exact h
    | exact evaluateStart_lawful h
    | skip
  · unfold State.abandonCrank State.keyOffCause
    exact enterStopped_lawful a rfl r w d i
  · unfold State.retire State.keyOffCause
    exact enterCooldown_lawful (by simpa [Sequencer.stopFor] using a) (by simpa [Sequencer.stopFor] using k)
      (by simpa [Sequencer.stopFor] using r) (by simp [Timer.isRunning]) (by simp [Timer.isRunning])
  · unfold State.retire State.keyOffCause
    exact enterCooldown_lawful (by simpa [Sequencer.stopFor] using a) (by simpa [Sequencer.stopFor] using k)
      (by simpa [Sequencer.stopFor] using r) (by simp [Timer.isRunning]) (by simp [Timer.isRunning])

theorem sequencerReset_lawful {s : State} (h : s.gs.lawful) : s.sequencerReset.gs.lawful := by
  have l : (s.onGs fun g => { g with wantedCopy := false }).gs.lawful :=
    ⟨h.attempts, h.crank, h.rest, h.warm, h.cooldown, fun g => ⟨(h.idleOff g).1, (h.idleOff g).2.1, rfl⟩⟩
  have l' := l
  obtain ⟨a, k, r, w, d, i⟩ := l'
  unfold State.sequencerReset
  dsimp only
  split <;> rename_i e <;>
    simp only [e, reduceCtorEq, imp_false, Bool.not_eq_true, false_and] at k r w d i <;> first
    | exact l
    | skip
  · unfold State.abandonCrank
    exact enterStopped_lawful a rfl r w d i
  · unfold State.retire
    exact enterCooldown_lawful (by simpa using a) (by simpa using k) (by simpa using r) (by simp [Timer.isRunning]) (by simp [Timer.isRunning])
  · unfold State.retire
    exact enterCooldown_lawful (by simpa using a) (by simpa using k) (by simpa using r) (by simp [Timer.isRunning]) (by simp [Timer.isRunning])

theorem leaveLockout_lawful {s : State} (h : s.gs.lawful) (e : s.gs.state = .lockedOut) : s.leaveLockout.gs.lawful := by
  obtain ⟨k, r, w, d, i⟩ := Sequencer.lawful_none h (by simp [e]) (by simp [e]) (by simp [e]) (by simp [e]) (by simp [e])
  have unknown : (s.onGs fun g => { g with state := .unknown }).unlocked.gs.lawful :=
    ⟨h.attempts, by simp [State.unlocked, k], by simp [State.unlocked, r], by simp [State.unlocked, w],
      by simp [State.unlocked, d], by simp [State.unlocked, i]⟩
  unfold State.leaveLockout
  split
  · split
    · exact unknown
    · split
      · exact enterStopped_lawful h.attempts k r w d i
      · exact enterStopped_lawful h.attempts k r w d i
      · exact enterCooldown_lawful h.attempts k r w i
      · exact h
  · exact unknown

theorem serviceStart_lawful {s : State} (h : s.gs.lawful) : s.serviceStart.gs.lawful := by
  unfold State.serviceStart
  split
  · next e => exact startEngine_lawful h e.1 _
  · exact h

end Sys2Proof.Machine
end

