-- ==== Sys2Proof/Laws/Settings.lean ====
section
/-! SUPPORT. The range of every setting: what the load's clamping of the settings can do (R167), said field by field. -/

namespace Sys2Proof.Machine

theorem clampNat_eq {lo hi : Nat} (h : lo ≤ hi) (n : Nat) : clampNat lo hi n = max lo (min hi n) := by
  unfold clampNat; split_ifs <;> omega

theorem clampNat_zero (hi n : Nat) : clampNat 0 hi n = min hi n := by
  unfold clampNat; split_ifs <;> omega

theorem clampInt_eq {lo hi : Int} (h : lo ≤ hi) (i : Int) : clampInt lo hi i = max lo (min hi i) := by
  unfold clampInt; split_ifs <;> omega

theorem writtenBlendPeriod_toNat (n : Nat) :
    (writtenBlendPeriod n).value.toNat = if n ≤ 15 then 10 else if n ≤ 30 then 20 else 40 := by
  unfold writtenBlendPeriod; dsimp only; split_ifs <;> omega

theorem writtenSilenceWindow_toNat (n : Nat) :
    (writtenSilenceWindow n).value.toNat = max 20 (min 500 n) / 10 * 10 := by
  unfold writtenSilenceWindow; dsimp only; rw [clampInt_eq (by omega)]; omega

/-- A list of one value for each place is that function of the places. -/
theorem list_eq_range {α : Type} {n : Nat} {d : α} {l : List α} {f : Nat → α} :
    l = (List.range n).map f ↔ l.length = n ∧ ∀ i, i < n → l.getD i d = f i := by
  constructor
  · rintro rfl
    exact ⟨by simp, fun i h => by simp [List.getD, h]⟩
  · rintro ⟨e, h⟩
    refine List.ext_getElem (by simp [e]) fun i a b => ?_
    rw [List.getElem_map, List.getElem_range, ← h i (by omega), List.getD_eq_getElem _ _ a]

theorem Six.ext_get {α : Type} {x y : Six α} (h : ∀ w, x.get w = y.get w) : x = y := by
  cases x; cases y
  simp only [Six.mk.injEq]
  exact ⟨h .l1, h .r1, h .l2, h .r2, h .l3, h .r3⟩

/-- Settings are those of a region, each clamped to its range, exactly when they are what the load takes of it (R167). -/
theorem Settings.clampedFrom_iff {x y : Settings} : x.clampedFrom y ↔ x = clampSettings y := by
  constructor
  · intro h
    cases x
    simp only [clampSettings, Settings.mk.injEq]
    obtain ⟨h1, h2, h3, h4, h5, h6, h7, h8, h9, h10, h11, h12, h13, h14, h15, h16, h17, h18, h19, h20, h21, h22, h23, h24, h25,
      h26, h27, h28, h29, h30, h31, h32, h33, h34, h35, h36, h37, h38, h39, h40, h41, h42, h43⟩ := h
    obtain ⟨a1, a2, a3, a4⟩ := h15
    simp only [clampNat_zero, clampNat_eq (show 5 ≤ 100 by omega), clampNat_eq (show 50 ≤ 1000 by omega),
      clampNat_eq (show 2 ≤ 15 by omega), clampNat_eq (show 10 ≤ 600 by omega), clampNat_eq (show 5 ≤ 300 by omega),
      clampNat_eq (show 1 ≤ 30 by omega), clampNat_eq (show 70 ≤ 100 by omega), clampNat_eq (show 1 ≤ 255 by omega),
      clampNat_eq (show 1 ≤ 7 by omega), clampInt_eq (show (0 : Int) ≤ 120 by omega),
      clampInt_eq (show (-40 : Int) ≤ 200 by omega), writtenBlendPeriod_toNat, writtenSilenceWindow_toNat]
    refine ⟨h1, h2, h3, h4, h5, h6, h7, h8, h9, h10, h11, h12, h13, h14, a1, a2, a3, a4, h16, list_eq_range.mpr h17, h18, h19, h20,
      h21, h22, h23, h24, h25, h26, h27, h28, h29, h30, h31, h32, h33, h34, list_eq_range.mpr h35, list_eq_range.mpr h36, h37, h38,
      h39, h40, h41, h42, ?_⟩
    exact Six.ext_get fun w => by rw [Six.get_map, clampNat_eq (by omega)]; exact h43 w
  · rintro rfl
    constructor
    case activityMasks => exact ⟨rfl, rfl, rfl, rfl⟩
    case draws => exact list_eq_range.mp (by simp only [clampSettings, clampNat_zero])
    case edges => exact list_eq_range.mp rfl
    case masks => exact list_eq_range.mp rfl
    case blendPeriod => exact writtenBlendPeriod_toNat _
    case silenceWindow => exact writtenSilenceWindow_toNat _
    case heatCapacity => exact fun w => (Six.get_map _ _ _).trans (clampNat_eq (by omega) _)
    all_goals first
      | rfl
      | exact clampNat_zero _ _
      | exact clampNat_eq (by omega) _
      | exact clampInt_eq (by omega) _

/-- What the Wear Unit gives a wear save is what R165 and R166 say it takes. -/
theorem WearUnit.contents_takenFrom (w : WearUnit) : w.contents.takenFrom w :=
  ⟨fun e => by cases e <;> exact ⟨rfl, rfl, rfl⟩, ⟨rfl, rfl, rfl⟩, ⟨rfl, rfl⟩⟩

end Sys2Proof.Machine
end

