-- ==== Sys2Proof/Tests/Slice0.lean ====
section
/-! SUPPORT. Tests: ill-formed commands refused, the manual's worked figures, and for each statement a state and operands that meet
its hypotheses. -/

namespace Sys2Proof.Tests

open Sys2Proof Sys2Proof.Machine

/-! ### States the tests start from -/

/-- The storage list of section 2-10.1. -/
def storageList : List Offer := [⟨none, 120, 2, true, false, false⟩, ⟨some 60, 200, 5, true, false, false⟩]

/-- The genset list of section 2-10.1. -/
def gensetOffers : List Offer := [⟨none, 80, 4, false, false, false⟩, ⟨none, 140, 6, false, false, false⟩]

/-- A port that is UP, with nothing waiting. -/
def portUp : PartnerPort := { PartnerPort.reset with state := .up, silence := .running 100 }

/-- A loaded part with the key on, the gate OPEN, every port UP and the inputs of section 2-10.1. -/
def ready : State := { State.reset with
  key := true
  loaded := true
  ports := PerPort.fill portUp
  view := { View.reset with
    traction := some ⟨⟨0, 160, 60, true, 250, 40⟩, 0, false⟩
    pack := some ⟨⟨520, 25, 0, 200⟩, 0, false⟩
    genset := some ⟨⟨.running, 70, none⟩, 0, false⟩
    brake := some ⟨⟨0, 280, 70, 95, 115, false, false, false, false⟩, 0, false⟩
    storage := some ⟨storageList, 0, false⟩
    gensetList := some ⟨gensetOffers, 0, false⟩ }
  cu := { ContractUnit.reset with gate := .opened }
  gs := { Sequencer.reset with state := .online }
  aux := { AuxUnit.reset with mode := .electric, lines := .driven 0x1B#8 }
  wear := { WearUnit.reset with cooling := .running 1000, battery := ⟨1250000, 0, 2000000, 5, 10⟩ }
  store := { Store.reset with saveTimer := .running 600000 } }

/-- The terms of the HYBRID contract of section 2-10.2: (s1, g1). -/
def hybridTerms : Terms := ⟨160, 60, 160, 1, 102, some 1, 80, 22, 0, 180, .hybrid, none, false, none⟩

/-- `ready` with contract 8 of section 3-9.2 active, s2 expired. -/
def driving : State := { ready with
  view := { ready.view with
    storage := some ⟨[⟨none, 120, 2, true, false, false⟩, ⟨some 60, 200, 5, true, false, true⟩], 0, false⟩
    reference := some (160, 60) }
  cu := { ready.cu with active := some ⟨8, hybridTerms⟩, counter := 8 }
  gs := { ready.gs with heldKw := 80, heldIndex := some 1 }
  aux := { ready.aux with mode := .hybrid, lines := .driven 0x7F#8 } }

/-- Proposal 6 of section 3-9.1, on (s1, g2), at 80 ms. -/
def offered : Proposal :=
  ⟨6, { hybridTerms with gensetIndex := some 2, share := 42, commitment := 140 }, ⟨true, true, true⟩, ⟨true, true, false⟩, 0, 0⟩

/-- Section 3-9.1 at 80 ms: contract 4 reduced on s1, s2 expired, g1 excluded, proposal 6 wanting the genset's acceptance. -/
def bargaining : State := { ready with
  view := { driving.view with
    gensetList := some ⟨[⟨none, 80, 4, false, true, false⟩, ⟨none, 140, 6, false, false, false⟩], 0, false⟩ }
  cu := { ready.cu with
    active := some ⟨4, ⟨160, 60, 94, 1, 108, none, 0, 14, 0, 180, .electric, none, true, none⟩⟩
    proposal := some offered
    counter := 6
    round := .inRound 2
    window := .running 165 } }

/-- Section 3-9.1 at 275 ms: proposal 7 wants the pack controller's acceptance alone. -/
def settling : State := { bargaining with
  cu := { bargaining.cu with
    proposal := some ⟨7, ⟨160, 60, 94, 1, 108, none, 0, 14, 0, 180, .electric, some .shortSupply, false, none⟩,
      ⟨true, true, false⟩, ⟨true, false, false⟩, 0, 0⟩
    counter := 7
    round := .inRound 3 } }

/-- `ready` with the genset STOPPED and nothing asked of it. -/
def parked : State := { ready with gs := { Sequencer.reset with state := .stopped } }

/-- The run of section 6-11.1: the state it reads. -/
def braking : State := { driving with
  view := { driving.view with
    traction := some ⟨⟨100, 0, 0, true, 250, 40⟩, 0, false⟩
    brake := some ⟨⟨150, 280, 70, 95, 115, false, false, false, false⟩, 0, false⟩ }
  blend := { BlendUnit.reset with result := { BlendUnit.reset.result with applied := 150 }, timer := .running 0 } }

/-- What a command's next state shows. -/
def after (c : Instr) (s : State) (check : State → Bool) : Bool :=
  match exec c s with
  | .next t => check t
  | _ => false

/-! ### Ill-formed commands are refused -/

/-- An ill-formed command for each check of a report's fields. -/
theorem test_ill_formed_reports :
    [Instr.tractionReport ⟨65536, 0, 0, true, 0, 0⟩, .tractionReport ⟨0, 65536, 0, true, 0, 0⟩,
      .tractionReport ⟨0, 0, 65536, true, 0, 0⟩, .tractionReport ⟨0, 0, 0, true, 65536, 0⟩,
      .tractionReport ⟨0, 0, 0, true, 0, 32768⟩, .packReport ⟨65536, 0, 0, 0⟩, .packReport ⟨0, -32769, 0, 0⟩,
      .packReport ⟨0, 0, 32768, 0⟩, .packReport ⟨0, 0, 0, 65536⟩, .gensetReport ⟨256, 0, 0⟩, .gensetReport ⟨0, 32768, 0⟩,
      .gensetReport ⟨0, 0, 256⟩, .brakeDemand ⟨65536, 0, 0, 0, 0, false, false, false, false⟩,
      .brakeDemand ⟨0, 65536, 0, 0, 0, false, false, false, false⟩, .brakeDemand ⟨0, 0, 65536, 0, 0, false, false, false, false⟩,
      .brakeDemand ⟨0, 0, 0, 65536, 0, false, false, false, false⟩,
      .brakeDemand ⟨0, 0, 0, 0, 65536, false, false, false, false⟩].all (fun i => !i.wellFormed) = true := by decide

/-- An ill-formed command for each check of a partner's other requests. -/
theorem test_ill_formed_requests :
    [Instr.offerList .pack (List.replicate 8 ⟨0, 0, false, false, 0⟩), .offerList .pack [⟨4096, 0, false, false, 0⟩],
      .offerList .pack [⟨0, 1024, true, false, 0⟩], .offerList .pack [⟨0, 0, false, false, 32⟩], .accept .pack 256,
      .decline .pack 256 0, .decline .pack 1 256, .yieldPower .pack 65536].all (fun i => !i.wellFormed) = true := by decide

/-- An ill-formed command for each check of a signal between units. -/
theorem test_ill_formed_signals :
    [Instr.latePortUpNotice .traction, .portStateBlend .pack .up, .gensetReportSignal .running (-41) none,
      .gensetReportSignal .running 201 none, .gensetReportSignal .fault 0 (some 256), .activitySignal .service,
      .commitmentHanded 1024 none, .commitmentHanded 0 (some 0), .commitmentHanded 0 (some 7),
      .frictionHandOff ⟨0, 0, 0, 0, 0, 1024⟩ 20, .packHandOff (-1024) 0 0, .packHandOff 1024 0 0, .packHandOff 0 (-41) 0,
      .packHandOff 0 201 0, .packHandOff 0 0 501, .startPointsHandOff 2].all (fun i => !i.wellFormed) = true := by decide

/-- An ill-formed command for each check of a service request. -/
theorem test_ill_formed_service :
    [Instr.serviceWrite 128 [], .serviceRead 128 0, .readItem 65536, .writeItem 65536 false 0,
      .writeItem 0x500 false 2147483648, .writeItem 0x400 false (-1), .writeModeVector .safe 2147483648,
      .writeRatedDraw 0 2147483648, .writePolarity 0 (-2147483649), .writePadAccount .l1 false (-1),
      .writePadAccount .l1 false 4294967296, .writePadLife .l1 false 2147483648, .writeHeatCapacity .l1 false 2147483648,
      .writeBatteryAccount 4294967296, .writeBatteryLife 2147483648, .writeEngineAccount 2147483648,
      .writeEngineLife 2147483648, .writeFadeThreshold 2147483648, .writeWarnGrade .pad 2147483648,
      .writeChargeMark .start 2147483648, .writeCriticalMark 2147483648, .writeDeliveryMask .globalMask 2147483648,
      .writeDeliveryMask (.code 0) 0, .writeDeliveryMask (.code 24) 0, .wearResetPad 256 false, .wearResetPad 6 false,
      .wearResetPad 7 false, .portReset 256, .tallyClear 256].all (fun i => !i.wellFormed) = true := by decide

/-! ### Check words and the manual's worked figures -/

/-- Section 10-3: the NOP request is sent as 0x01, 0x00, 0xC2. -/
theorem test_nop_frame : envelope 0x01 [] = [0x01#8, 0x00#8, 0xC2#8] := by decide

/-- The check value of the CRC-16 of R165 over "123456789". -/
theorem test_crc16_check_value :
    crc16 [0x31#8, 0x32#8, 0x33#8, 0x34#8, 0x35#8, 0x36#8, 0x37#8, 0x38#8, 0x39#8] = 0x29B1#16 := by decide

/-- Section 2-10.1: the winner is (s2, none), with the terms and the count of candidates given there. -/
theorem test_departure_with_a_peak_offer :
    after .gensetEntersOnline ready (fun t =>
      t.cu.proposal.map (·.terms) = some ⟨160, 60, 160, 2, 174, none, 0, 14, 0, 180, .electric, none, false, some 60⟩ &&
      t.cu.lastSelection == ⟨.propose, none, some 2, none, 6, 5⟩ && !t.cu.gensetWanted) = true := by decide

/-- Section 2-10.2, the engine STOPPED at the peak's expiry: (s1, none) in mismatch, and genset wanted raised by the second pass. -/
theorem test_short_supply_after_the_peak :
    after .penaltyChange { bargaining with
        cu := { bargaining.cu with proposal := none, round := .idle, window := .stopped }
        view := { bargaining.view with gensetList := ready.view.gensetList }
        gs := { ready.gs with state := .stopped } } (fun t =>
      t.cu.proposal.map (fun p => (p.number, p.terms.grant, p.terms.share, p.terms.mismatch)) ==
        some (7, 94, 108, some .shortSupply) &&
      t.cu.lastSelection == ⟨.propose, some .shortSupply, some 1, none, 1, 0⟩ && t.cu.gensetWanted) = true := by decide

/-- Section 1-9.1, report d: stored as 200 / 200, BASIS, TRACTION_RISE, and CLAMPED. -/
theorem test_traction_report_d :
    after (.tractionReport ⟨0, 200, 240, true, 250, 40⟩) { ready with
        view := { ready.view with
          traction := some ⟨⟨0, 171, 60, true, 250, 40⟩, 0, false⟩, reference := some (160, 60) } } (fun t =>
      t.view.traction.map (fun x => (x.content.pReq, x.content.pMin)) == some (200, 200) &&
      t.signals == [.arrivalNotice .traction ⟨true, false, false, false, false⟩, .activitySignal .tractionRise] &&
      (t.port .traction).slot == .reply (.answer 0x10 .done true [])) = true := by decide

/-- Section 1-9.2, the report at 1200 ms: below the charge-start mark, the acceptance moved, 100 ms since the one before. -/
theorem test_pack_report_at_1200 :
    after (.packReport ⟨348, 25, 0, 176⟩) { ready with
        ms := 1200, view := { ready.view with pack := some ⟨⟨355, 25, 0, 180⟩, 1100, false⟩ } } (fun t =>
      t.signals == [.arrivalNotice .pack ⟨false, false, true, true, false⟩, .packHandOff 0 25 100]) = true := by decide

/-- Section 1-9.2, the report at 1410 ms: a HELD predecessor counts as none. -/
theorem test_pack_report_at_1410 :
    after (.packReport ⟨344, 25, 0, 176⟩) { ready with
        ms := 1410, view := { ready.view with pack := some ⟨⟨348, 25, 0, 176⟩, 1200, true⟩ } } (fun t =>
      t.signals == [.arrivalNotice .pack ⟨false, false, true, true, false⟩, .criticalMarkSignal, .packHandOff 0 25 0]) =
      true := by decide

/-- Section 3-9.1 at 245 ms: the window's expiry marks g2, records the genset's TIMEOUT, and proposal 7 follows in mismatch. -/
theorem test_window_expiry :
    after .acceptanceWindowExpiry bargaining (fun t =>
      t.cu.proposal.map (fun p => (p.number, p.terms.grant, p.terms.share, p.terms.mismatch, p.required)) ==
        some (7, 94, 108, some .shortSupply, ⟨true, true, false⟩) &&
      t.cu.lastDecline == some ⟨⟨false, false, true⟩, .timeout, 6⟩ && t.cu.round == .inRound 3 && !t.cu.gensetWanted) =
      true := by decide

/-- Section 3-9.1 at 275 ms: the last acceptance makes 7 active, on all four ports, and clears the exclusion marks. -/
theorem test_last_acceptance :
    after (.accept .pack 7) settling (fun t =>
      t.cu.active.map (fun c => (c.number, c.terms.ceiling)) == some (7, 180) && t.cu.round == .idle &&
      (t.port .brake).queue.length == 1 && (entries t.view.gensetList).all (fun o => !o.excluded)) = true := by decide

/-- Section 3-9.1 at 60 ms: an ACCEPT of a number no longer pending is STALE. -/
theorem test_stale_accept :
    after (.accept .pack 5) bargaining (fun t =>
      (t.port .pack).slot == .reply (.answer 0x20 .stale false []) && t.cu == bargaining.cu) = true := by decide

/-- Section 3-9.1 at 45 ms: the genset's DECLINE marks its offer and the next run proposes the other. -/
theorem test_decline_thermal :
    after (.decline .genset 6 2) { bargaining with
        view := { bargaining.view with gensetList := ready.view.gensetList } } (fun t =>
      t.cu.proposal.map (fun p => (p.number, p.terms.share, p.terms.gensetIndex)) == some (7, 102, some 1) &&
      (entries t.view.gensetList).map (·.excluded) == [false, true] &&
      t.cu.lastDecline == some ⟨⟨false, false, true⟩, .thermal, 6⟩) = true := by decide

/-- Section 3-9.2: YIELD 50 kW of the genset reduces contract 8 to a grant of 136 kW, and a run proposes 9. -/
theorem test_yield_of_50 :
    after (.yieldPower .genset 50) driving (fun t =>
      t.cu.active.map (fun c => (c.number, c.terms.grant, c.terms.share, c.terms.commitment, c.terms.reduced)) ==
        some (8, 136, 108, 50, true) &&
      t.cu.proposal.map (fun p => (p.number, p.terms.grant, p.terms.gensetIndex)) == some (9, 160, some 1)) = true := by decide

/-- Section 4-12.1 at 0 s and at 6 s: the start, and the crank timer's expiry. -/
theorem test_first_crank :
    after (.gensetWantedChange true .demand) parked (fun t =>
      t.gs.state == .cranking && t.gs.attempts == 1 && t.gs.crank == .running 6000 && t.gs.startCause == .demand &&
      after .crankTimerExpiry t fun u => u.gs.state == .resting && u.gs.rest == .running 10000 && u.gs.stopCause == .none &&
        (u.port .genset).queue == [.gensetCommand .stop none 0]) = true := by decide

/-- Section 4-12.1 at 19.4 s and at 75 s: RUNNING at 22 degrees costs 3 points; at 60 degrees the genset is ONLINE with count 0. -/
theorem test_warm_up :
    after (.gensetReportSignal .running 22 none) { parked with
        gs := { parked.gs with state := .cranking, attempts := 2, crank := .running 2600, wantedCopy := true } } (fun t =>
      t.gs.state == .warming && t.gs.warm == .running 90000 && t.signals == [.startPointsHandOff 3] &&
      after (.gensetReportSignal .running 60 none) t fun u => u.gs.state == .online && u.gs.attempts == 0 &&
        (u.port .genset).queue == [.gensetCommand .operate none 0] && u.gs.idleOff == .stopped) = true := by decide

/-- Section 5-8, line 5's polarity clear: the levels of the SAFE vector are H L H H L H L L, line 1 in bit 0. -/
theorem test_safe_vector_levels : lineLevels 0x3D#8 0xEF#8 = 0x2D#8 := by decide

/-- Section 5-8: the cabin heater enabled in the HYBRID vector, under HYBRID, makes the allowance 30 kW and line 8 high. -/
theorem test_heater_switched_on :
    after (.writeModeVector .hybrid 255) { driving with settings := { driving.settings with polarity := 0xEF#8 } } (fun t =>
      t.aux.allowances.hybrid == 30 && t.aux.lines == .driven 0xEF#8 && t.signals == [.auxChange]) = true := by decide

/-- Section 6-11.1, with the storage share of 14 kW: every figure of the run. -/
theorem test_one_run_in_full :
    (BlendInputs.run Settings.default
      ⟨100, 250, ⟨150, 280, 70, 95, 115, false, false, false, false⟩, some (180, 14), true, true, false, 150⟩ true).result =
      ⟨420, 250, 220, 189, 189, 170, 60, 90, 250, 64, 84, 102, ⟨32, 32, 42, 42, 51, 51⟩⟩ := by decide

/-- Section 6-11.2, the first run: a gap of 189 kW doubles the step. -/
theorem test_catch_up :
    (BlendInputs.run Settings.default
      ⟨100, 250, ⟨150, 280, 70, 95, 115, false, false, false, false⟩, some (180, 14), true, true, false, 0⟩ true).result.applied =
      40 := by decide

/-- Section 7-9.1, the second hand-off: theta rises by 1 and 8,640 units are kept. -/
theorem test_second_hand_off :
    after (.frictionHandOff ⟨0, 0, 0, 0, 51, 0⟩ 20) { ready with
        wear := { ready.wear with wheels := ready.wear.wheels.set .l3 ⟨1281, 4320, 1, 20, 20000, 0, false⟩ } } (fun t =>
      (t.wear.wheels.get .l3).theta == 1282 && (t.wear.wheels.get .l3).heat == 8640) = true := by decide

/-- Section 7-9.2, the end of the first second: 6320 falls by 46 at 8 m/s. -/
theorem test_first_second_of_the_descent :
    after .coolingTimerExpiry { ready with
        view := { ready.view with traction := some ⟨⟨80, 0, 0, true, 250, 40⟩, 0, false⟩ }
        wear := { ready.wear with wheels := ready.wear.wheels.set .l3 ⟨6320, 0, 0, 0, 20000, 0, false⟩ } } (fun t =>
      (t.wear.wheels.get .l3).theta == 6274 && t.wear.cooling == .running 1000) = true := by decide

/-- Section 8-8.1, report c: weighted by 4, the account reaches 1,250,000 MJ, grade 5, derate 10 %. -/
theorem test_battery_crosses_into_grade_5 :
    after (.packHandOff 180 47 100) { ready with wear := { ready.wear with battery := ⟨1249999, 994000, 2000000, 4, 5⟩ } } (fun t =>
      t.wear.battery == ⟨1250000, 66000, 2000000, 5, 10⟩ &&
      t.signals == [.conditionLevelChange [.batteryGrade 5], .derateChange]) = true := by decide +kernel

/-- Section 9-7, the first row: FADE of 3L tells the Brake port alone, and pulls the service line low. -/
theorem test_fade_of_3l :
    after (.conditionLevelChange [.fade .l3 true]) ready (fun t =>
      t.warn.latched == 0x400#24 && (t.port .brake).queue == [.warning 11 0x400#24] && (t.port .pack).queue == [] &&
      t.warn.summaries.wheel && !t.warn.summaries.link && t.warn.serviceLow) = true := by decide

/-- Section 9-7, the clear: every latch goes, the level that is still true stays, the line goes high. -/
theorem test_clear_of_all :
    after (.clearWarnings 0x7FFFFF#24) { ready with
        warn := ⟨0x800#24, 0x40C00#24, ⟨true, false, true, false⟩, true⟩ } (fun t =>
      t.warn.levels == 0x800#24 && t.warn.latched == 0#24 && !t.warn.serviceLow && !t.warn.summaries.wheel) = true := by decide

/-- Section 10-8 at 2 ms: the reply goes out and the ACCEPT is taken in its place. -/
theorem test_accept_taken_as_the_reply_goes :
    after (.spiExchange .pack (.whole (envelope 0x20 [5#8] ++ List.replicate 28 0#8))) { ready with
        ports := ready.ports.set .pack { portUp with slot := .reply (.answer 0x11 .done false []) } } (fun t =>
      (t.port .pack).slot == .reserved (.accept .pack 5) &&
      (t.port .pack).lastOut.take 5 == [0x91#8, 3#8, 0#8, 0#8, 0#8]) = true := by decide

/-- Section 10-8 at 4 ms: a request that finds the slot reserved is discarded and sets the overrun flag. -/
theorem test_overrun :
    after (.spiExchange .pack (.whole (envelope 0x20 [5#8] ++ List.replicate 28 0#8))) { ready with
        ports := ready.ports.set .pack { portUp with
          slot := .reserved (.accept .pack 5), queue := [.contractOffer 5 hybridTerms] } } (fun t =>
      (t.port .pack).slot == .reserved (.accept .pack 5) && (t.port .pack).overrun && (t.port .pack).queue == []) =
      true := by decide

/-- Section 11-7 at 12 ms: COMMIT in WRITING is refused BUSY. -/
theorem test_commit_in_writing :
    after .commit { ready with
        svc := { ready.svc with inProcess := some .commit }
        store := { ready.store with phase := .writingSettings Settings.default } } (fun t =>
      t.svc.reply == some (.answer 0x6A (.refused .busy) false [])) = true := by decide

/-- Section 11-7 at 40 ms: the settings write ends and the save that waited begins. -/
theorem test_pending_save_begins :
    after (.storeWriteCompletion true) { ready with
        store := { ready.store with phase := .writingSettings Settings.default, pendingSave := true } } (fun t =>
      t.store.phase == .writingWear t.wear.contents && !t.store.pendingSave) = true := by decide

/-- Section 12-4 at 400 ms: contract 1 is queued on the Brake port come UP. -/
theorem test_late_brake_port :
    after (.latePortUpNotice .brake) driving (fun t =>
      (t.port .brake).queue == [.contractActive 8 hybridTerms] && (t.port .genset).queue == []) = true := by decide

/-- Section 12-4 at 70 ms: the storage list opens the gate, and (s1, none) is proposed with a share of 14 kW. -/
theorem test_gate_opens :
    after (.arrivalNotice .storageList ⟨false, false, false, false, true⟩) { parked with
        cu := ContractUnit.reset
        view := { parked.view with traction := some ⟨⟨0, 0, 0, true, 0, 0⟩, 0, false⟩ } } (fun t =>
      t.cu.gate == .opened && t.cu.proposal.map (fun p => (p.number, p.terms.storageIndex, p.terms.share)) == some (1, 1, 14)) =
      true := by decide

/-- R73: the idle-off timer of code 0 never expires. -/
theorem test_idle_off_code_0 :
    after .idleOffExpiry { ready with gs := { ready.gs with idleOff := .endless } } (fun t =>
      t.gs.state == .online && t.gs.idleOff == .endless && (t.port .genset).queue == []) = true := by decide

/-- R97, R157: DRIVELINE_RESET drives the SAFE vector; the gate that reopens calls for the derivation that leaves it. -/
theorem test_reset_passes_through_safe :
    after .drivelineReset driving (fun t =>
      t.aux.mode == .safe && t.aux.lines == .driven 0x3D#8 && t.cu.gate == .opened && t.signals.contains .modeDerivation) =
      true := by decide

/-- R161: item 0x515 is the idle-off code, within 0 to 15; R162: the reply carries CLAMPED. -/
theorem test_write_of_the_idle_off_code :
    after (.writeItem 0x515 false 99) { ready with svc := { ready.svc with inProcess := some (.writeItem 0x515 false 99) } } (fun t =>
      t.settings.idleOffCode == 15 && t.svc.reply == some (.answer 0x61 .done true []) && t.readItem 0x515 == some 15) =
      true := by decide

/-- Host interface: a command in the queue is run by `step`, and the queue moves on. -/
theorem test_step_takes_the_front :
    (match step { State.reset with pending := [.keyOn, .keyOff] } with
      | .next t => t.key && t.pending == [.keyOff]
      | _ => false) = true := by decide


/-! ### States and operands that meet the statements' hypotheses, clause by clause -/

/-- StepRunsTheCommandAtTheFront. -/
theorem test_witness_step : ({ ready with pending := [.keyOff, .commit] } : State).pending = .keyOff :: [.commit] := by decide

/-- IdleStepTakesASignalOrAMillisecond: a signal raised; none, and a request held before a timer due; neither, and every timer with
1 ms left. -/
theorem test_witness_idle :
    ({ ready with signals := [.auxChange] } : State).signals = .auxChange :: [] ∧ ready.pending = [] ∧ ready.signals = [] ∧
      (let s := { braking with svc := { braking.svc with inProcess := some .commit } };
        s.heldRequests ++ s.dueExpiries = .commit :: [.blendTimerExpiry]) ∧
      ready.heldRequests = [] ∧ ready.dueExpiries = [] ∧ ready.wear.cooling = .running (999 + 1) ∧
      (ready.port .brake).silence = .running (99 + 1) ∧
      ({ ready with
        cu := { ready.cu with window := .running 1, rest := .running 1, peak := .running 1 }
        gs := { ready.gs with
          crank := .running 1, rest := .running 1, warm := .running 1, idleOff := .endless, cooldown := .running 1 }
        blend := { ready.blend with timer := .running 1 }
        svc := { ready.svc with hold := some 6, holdTimer := .running (1 + 1) } } : State).dueExpiries = [] := by decide

/-- ReportsRaiseTheirSignals: a FRESH pack report 500 ms old, and none. -/
theorem test_witness_pack_interval :
    ({ ready with ms := 500 } : State).view.pack = some ⟨⟨520, 25, 0, 200⟩, 0, false⟩ ∧ 500 < 4294967296 ∧
      ¬ (∃ old, heldFresh State.reset.view.pack old) :=
  ⟨rfl, by decide, fun ⟨_, _, h⟩ => nomatch h⟩

/-- OfferListReplacesTheListHeld: no entry, one, six, and seven. -/
theorem test_witness_offer_list :
    let e : RawOffer := ⟨1023, 600, true, false, 15⟩
    ([] : List RawOffer).length = 0 ∧ 1 ≤ [e].length ∧ (List.replicate 6 e).length ≤ 6 ∧ 6 < (List.replicate 7 e).length ∧
      [e][0]? = some e := by decide

/-- WinnerIsFirstOfTheCovered: the inputs of section 2-10.1. -/
theorem test_witness_winner : ∃ c ∈ ready.inputs.candidates true, c.covered = true := by decide

/-- ShortSupplyFormsMismatchTerms: the inputs of section 2-10.2 with the engine STOPPED. -/
theorem test_witness_short_supply :
    (∀ c ∈ bargaining.inputs.candidates false, c.covered = false) ∧
      ∃ c ∈ bargaining.inputs.candidates false, c.aux ≤ c.eff + c.gPower := by decide

/-- NoTermsInTwoCases: the two ways to no terms. -/
theorem test_witness_no_terms :
    (State.reset.inputs.pass true).result = .error .noStorageOffer ∧
      ({ ready with view := { ready.view with storage := some ⟨[⟨none, 5, 0, true, false, false⟩], 0, false⟩ } } :
        State).inputs.candidates false ≠ [] := by decide

/-- PowerOnStateOfEveryBlock: the supply lost while each region was being written, and while none was. -/
theorem test_witness_power_on :
    ({ Store.reset with phase := .writingSettings Settings.default } : Store).phase = .writingSettings Settings.default ∧
      ({ Store.reset with phase := .writingWear WearContents.default } : Store).phase = .writingWear WearContents.default ∧
      ready.store.phase = .idle := ⟨rfl, rfl, rfl⟩

/-- LoadEndSetsEveryBlock: not loaded, the key off and on, the images good, and each with a check word that is wrong; a port not UP, and
a level that stands and holds. -/
theorem test_witness_load_end :
    State.reset.loaded = false ∧ State.reset.key = false ∧ ({ State.reset with key := true } : State).key = true ∧
      wearImageGood State.reset.store.wearImage = true ∧
      wearImageGood { writtenWear WearContents.default with check := ~~~ (writtenWear WearContents.default).check } = false ∧
      settingsImageGood State.reset.store.settingsImage = true ∧
      settingsImageGood { writtenSettings Settings.default with check := ~~~ (writtenSettings Settings.default).check } = false ∧
      (State.reset.port .brake).state ≠ .up := by
  decide +kernel

/-- LoadEndSetsEveryBlock, its first evaluation: a bad wear region is an owner's level that stands and holds. -/
theorem test_witness_first_evaluation :
    State.stands { State.reset with store := { Store.reset with wearBad := true } } (.wearBad true) ∧
      levelHolds Settings.default (.wearBad true) := ⟨rfl, rfl⟩

/-- KeyOnTestsTheGate: the key off, before and after the load's end, the gate BLOCKED. -/
theorem test_witness_key_on :
    State.reset.key = false ∧ State.reset.loaded = false ∧ State.reset.cu.restsUnlessOpen ∧ State.reset.cu.gate = .blocked ∧
      ({ State.reset with loaded := true } : State).loaded = true :=
  ⟨rfl, rfl, fun _ => ⟨rfl, rfl, rfl, rfl, rfl, rfl, rfl, rfl⟩, rfl, rfl⟩

/-- KeyOffAtEveryBlock and DrivelineResetAtEveryBlock: the key on and the gate OPEN with the genset ONLINE; and the gate BLOCKED. -/
theorem test_witness_key_off :
    driving.key = true ∧ driving.loaded = true ∧ driving.cu.restsUnlessOpen ∧ driving.cu.gate = .opened ∧
      driving.gs.state = .online ∧ driving.store.phase = .idle ∧ (driving.port .genset).state = .up ∧
      ({ parked with cu := ContractUnit.reset } : State).cu.restsUnlessOpen ∧ parked.gs.state = .stopped :=
  ⟨rfl, rfl, fun h => absurd rfl h, rfl, rfl, rfl, rfl, fun _ => ⟨rfl, rfl, rfl, rfl, rfl, rfl, rfl, rfl⟩, rfl⟩

/-- The other states of the genset and the store that KeyOffAtEveryBlock and DrivelineResetAtEveryBlock speak of. -/
theorem test_witness_key_off_states :
    ({ driving with gs := { driving.gs with state := .cranking } } : State).gs.state = .cranking ∧
      ({ driving with gs := { driving.gs with state := .warming } } : State).gs.state = .warming ∧
      ({ driving.store with phase := .failed } : Store).phase = .failed ∧
      ({ driving.store with phase := .writingWear WearContents.default } : Store).phase ≠ .idle := by decide

/-- FrameIsChosenAtSelectFalling: no exchange, with a reply, with a notice alone, and with neither. -/
theorem test_witness_frame_chosen :
    ready.loaded = true ∧ portUp.exchange = none ∧ portUp.slot = .empty ∧ portUp.queue = [] ∧
      ({ portUp with slot := .reply (.answer 0x01 .done false []) } : PartnerPort).slot = .reply (.answer 0x01 .done false []) ∧
      ({ portUp with queue := [.contractWithdrawn 1] } : PartnerPort).queue = .contractWithdrawn 1 :: [] := by decide

/-- FrameIsRemovedWhenClockedOutWhole: the NOP's reply of six bytes in an exchange of six and of five; a notice; an IDLE frame. -/
theorem test_witness_frame_removed :
    let frame := (Reply.answer 0x01 .done false []).frame true
    let x : Exchange := ⟨frame, .reply, true, true⟩
    let p : PartnerPort := { portUp with exchange := some x, slot := .reply (.answer 0x01 .done false []), overrun := true }
    p.exchange = some x ∧ frame.length = 6 ∧ x.intact = true ∧ ¬ frame.length ≤ 5 ∧
      ({ x with source := .notice .contract } : Exchange).source = .notice .contract ∧
      ({ x with source := .idle } : Exchange).source = .idle := by decide

/-- InboundFrameIsCheckedAndTaken: no byte, a good NOP, and a frame of each error class. -/
theorem test_witness_inbound :
    (∀ b ∈ List.replicate 2 0#8, b = 0#8) ∧ (∃ b ∈ envelope 0x01 [], b ≠ 0#8) ∧
      checkFrame (partnerLength .brake) (envelope 0x01 []) = .ok (0x01, []) ∧
      checkFrame (partnerLength .brake) [1#8, 0#8, 0#8] = .error .frameCrc ∧
      checkFrame (partnerLength .brake) [1#8, 30#8, 0#8] = .error .frameLength ∧
      checkFrame (partnerLength .brake) (envelope 0x20 [1#8]) = .error .wrongKind ∧
      (ready.port .brake).exchange = none ∧ (State.reset.port .brake).state = .down := by decide

/-- PartnerRequestsRoundTrip and ServiceRequestsRoundTrip: requests with fields at the ends of their ranges. -/
theorem test_witness_round_trips :
    (Instr.offerList .pack (List.replicate 7 ⟨4095, 1023, true, true, 31⟩)).wellFormed = true ∧
      encodePartner (.yieldPower .pack 65535) = some (.pack, 0x22, [0xFF#8, 0xFF#8]) ∧
      (Instr.writePadAccount .r3 true 4294967295).wellFormed = true ∧
      encodeService (.writePadAccount .r3 true 4294967295) =
        some (0x61, [0x9D#8, 0x03#8, 0x01#8, 0xFF#8, 0xFF#8, 0xFF#8, 0xFF#8]) := by decide +kernel

/-- NoticesReplaceTheirClassInPlace: a DOWN port, a LOST port and both kinds of notice, an UP port with and without one of the class. -/
theorem test_witness_notices :
    portUp.lawful ∧ portUp.state = .up ∧ ({ portUp with state := .lost } : PartnerPort).state = .lost ∧
      PartnerPort.reset.state = .down ∧ (Notice.warning 1 1#24).cls ≠ .contract ∧ (Notice.contractWithdrawn 1).cls = .contract ∧
      (∀ m ∈ portUp.queue, m.cls ≠ .contract) ∧
      ({ portUp with queue := [.contractWithdrawn 1] } : PartnerPort).lawful ∧
      (∃ m ∈ ({ portUp with queue := [.contractWithdrawn 1] } : PartnerPort).queue, m.cls = .contract) :=
  ⟨List.nodup_nil, rfl, rfl, rfl, by decide, rfl, by decide, List.nodup_singleton _, ⟨_, List.mem_singleton.mpr rfl, rfl⟩⟩

/-- SilenceMakesThePortLost: a running timer on an UP port; a stopped one; a port not UP. -/
theorem test_witness_silence :
    (ready.port .brake).silence ≠ .stopped ∧ (ready.port .brake).state = .up ∧
      (State.reset.port .brake).silence = .stopped ∧ (State.reset.port .brake).state ≠ .up := by decide

/-- PortResetAndTallyClear: the last port's number, and the first that names none. -/
theorem test_witness_port_numbers : Port.brake.index = 3 ∧ Port.traction.index = 0 ∧ 3 < 4 := by decide

/-- TriggersAreTakenByTheRoundState: one of the four, with the gate OPEN and each round state, and with the gate not OPEN. -/
theorem test_witness_triggers :
    Instr.auxChange ∈ [Instr.gensetEntersOnline, .penaltyChange, .quietZoneChange, .auxChange] ∧ ready.cu.gate = .opened ∧
      ready.cu.round = .idle ∧ ready.cu.settled = false ∧ bargaining.cu.round = .inRound 2 ∧
      ({ ready.cu with round := .resting } : ContractUnit).round = .resting ∧ State.reset.cu.gate ≠ .opened := by decide

/-- The runs of TriggersAreTakenByTheRoundState and DeclineDiscardsTheProposal with the flag set: at IDLE and within a round, s1 excluded
so that no terms are formed and the active contract's offer still stands; and a run with the flag set and no contract active. -/
theorem test_witness_flagged :
    (let s : State := { driving with
        cu := { driving.cu with settled := true }
        view := { driving.view with storage := some ⟨[⟨none, 120, 2, true, true, false⟩], 0, false⟩ } };
      s.cu.settled = true ∧ s.endsWithContract false ∧ s.endsWithContract true) ∧
      ({ ready with cu := { ready.cu with settled := true } } : State).cu.settled = true ∧ ¬ ready.endsWithContract true :=
  ⟨⟨rfl, ⟨_, rfl, .inr ⟨_, rfl, _, _, rfl, by decide, rfl, rfl, fun h => nomatch h⟩⟩,
    ⟨_, rfl, .inr ⟨_, rfl, _, _, rfl, by decide, rfl, rfl, fun h => nomatch h⟩⟩⟩, rfl, fun ⟨_, h, _⟩ => nomatch h⟩

/-- AcceptIsAnswered: not OPEN; no proposal, another number; and the pending number from a party marked and one of two not marked. -/
theorem test_witness_accept :
    State.reset.cu.gate ≠ .opened ∧ ready.cu.gate = .opened ∧ ready.cu.proposal = none ∧
      bargaining.cu.proposal = some offered ∧ offered.number ≠ 5 ∧ offered.number = 6 ∧
      offered.required.has .traction = true ∧ offered.accepted.has .traction = true ∧
      (let p : Proposal := { offered with accepted := ⟨false, false, false⟩ };
        p.accepted.has .pack = false ∧ p.required.has .genset = true ∧ p.accepted.has .genset = false) := by decide

/-- LastAcceptanceActivates: `settling` wants the pack controller's acceptance alone; with and without a peak. -/
theorem test_witness_last_acceptance :
    settling.cu.gate = .opened ∧
      (∃ p, settling.cu.proposal = some p ∧ p.required.has .pack = true ∧ p.accepted.has .pack = false ∧
        (∀ q, q ≠ Party.pack → p.required.has q = true → p.accepted.has q = true) ∧ p.terms.peak = none) ∧
      settling.cu.settled = false ∧ ({ settling.cu with settled := true } : ContractUnit).settled = true ∧
      ({ hybridTerms with peak := some 60 } : Terms).peak = some 60 :=
  ⟨rfl, ⟨_, rfl, rfl, rfl, (by intro q; cases q <;> decide), rfl⟩, rfl, rfl, rfl⟩

/-- DeclineDiscardsTheProposal and WindowAndRestExpire: the proposal of `bargaining`; the timers running and stopped. -/
theorem test_witness_decline :
    bargaining.cu.gate = .opened ∧ bargaining.cu.proposal = some offered ∧ offered.number = 6 ∧
      offered.required.has .genset = true ∧ bargaining.cu.window ≠ .stopped ∧ ready.cu.window = .stopped ∧
      ready.cu.rest = .stopped ∧ ({ ready.cu with rest := .running 0 } : ContractUnit).rest ≠ .stopped ∧
      State.reset.cu.gate ≠ .opened := by decide

/-- YieldReducesTheContract: not OPEN; OPEN with a contract, with a proposal, and with neither. -/
theorem test_witness_yield :
    State.reset.cu.gate ≠ .opened ∧ driving.cu.gate = .opened ∧ driving.cu.active ≠ none ∧ bargaining.cu.proposal ≠ none ∧
      ready.cu.active = none ∧ ready.cu.proposal = none := by decide

/-- RevisionAndReductionFigures: contract 8 with need 182 met at 182, kept at 122 and dropped at 81, 82 to 121 and 21 kW, the give-back
flag set and clear; a pack report and lists held, and none; an index past the end of a list held. -/
theorem test_witness_reduction :
    let need := hybridTerms.grant + hybridTerms.aux
    let left := fun p : Nat => (p : Int) - (hybridTerms.aux : Int)
    need = 182 ∧ left 81 < hybridTerms.basisMin ∧ 0 ≤ left 22 ∧ left 21 < 0 ∧ hybridTerms.basisMin ≤ left 82 ∧
      hybridTerms.charge ≤ hybridTerms.commitment ∧ driving.view.pack ≠ none ∧ driving.view.storage ≠ none ∧
      driving.view.gensetList ≠ none ∧ State.reset.view.storage = none ∧ State.reset.view.gensetList = none ∧
      storageList.length < 3 ∧ driving.effAt 3 = 0 ∧ driving.effAt 0 = 0 ∧ driving.gensetAt 3 = 0 := by decide

/-- PeakExpiryMovesOrReduces: the timer stopped; running, with a contract and a CONTINUOUS entry, with no such entry, and with no
contract. -/
theorem test_witness_peak :
    driving.cu.peak = .stopped ∧ ({ driving.cu with peak := .running 0 } : ContractUnit).peak ≠ .stopped ∧
      driving.cu.active = some ⟨8, hybridTerms⟩ ∧
      (∃ l o, driving.view.storage = some l ∧ 1 ≤ 1 ∧ l.content[1 - 1]? = some o ∧ o.duration = none ∧ o.excluded = false ∧
        o.expired = false ∧ (driving.quiet = true → o.quiet = true)) ∧
      State.reset.view.storage = none ∧ ready.cu.active = none :=
  ⟨rfl, by decide, rfl, ⟨_, _, rfl, by decide, rfl, rfl, rfl, rfl, fun _ => rfl⟩, rfl, rfl⟩

/-- PortStatesAtTheContractUnit and LatePortIsTold: OPEN with a proposal that requires the Genset port, OPEN with none, not OPEN; a
contract active, and none. -/
theorem test_witness_port_states :
    bargaining.cu.gate = .opened ∧ bargaining.cu.proposal = some offered ∧ offered.required.genset = true ∧
      PortState.lost ≠ .up ∧ ready.cu.proposal = none ∧ State.reset.cu.gate ≠ .opened ∧
      driving.cu.active = some ⟨8, hybridTerms⟩ ∧ ready.cu.active = none := by decide

/-- ArrivalNoticesAreTaken: a pack report held with the charge marks crossed, each set of changes, the gate OPEN and not. -/
theorem test_witness_arrivals :
    (∃ k, ready.view.pack = some k) ∧ State.reset.view.pack = none ∧ ready.cu.gate = .opened ∧ State.reset.cu.gate ≠ .opened ∧
      (let all : ChangeSet := ⟨true, true, true, true, true⟩;
        all.chargeMark = true ∧ all.acceptance = true ∧ all.offers = true) ∧
      ChangeSet.none.chargeMark = false ∧ ChangeSet.none.basis = false := ⟨⟨_, rfl⟩, by decide⟩

/-- SupplyChangesAreTaken: a proposal that names a genset and one that names none; one the derated storage covers and one not. -/
theorem test_witness_supply :
    bargaining.cu.proposal = some offered ∧ offered.terms.gensetIndex ≠ none ∧ ready.cu.proposal = none ∧
      offered.terms.share ≤ bargaining.effAt offered.terms.storageIndex ∧ ready.effAt 9 < offered.terms.share ∧
      ready.cu.gate = .opened := by decide

/-- ChargeMarkIsWritten: a mark written at its value, and one written over the SoC held. -/
theorem test_witness_charge_mark :
    ({ ready.settings with chargeStart := 350 } : Settings) = ready.settings ∧
      ({ ready.settings with chargeStart := 1000 } : Settings) ≠ ready.settings ∧ State.reset.view.pack = none := by decide +kernel

/-- GensetReportsAreTaken, SequencerTimersExpire, LockoutsAreSetAndCleared: each state of the sequencer, a timer stopped and running, and
the third attempt; the Genset port UP with a report held, and DOWN. -/
theorem test_witness_sequencer :
    (∀ x : GensetState, ({ parked.gs with state := x } : Sequencer).state = x) ∧ ready.gs.crank = .stopped ∧
      (let g : Sequencer := { ready.gs with
          attempts := 2, crank := .running 0, rest := .running 0, warm := .running 0, idleOff := .running 0, cooldown := .running 0 };
        g.attempts < 3 ∧ g.crank ≠ .stopped ∧ g.rest ≠ .stopped ∧ g.warm ≠ .stopped ∧ g.idleOff = .running 0 ∧
          g.cooldown ≠ .stopped) ∧ ({ ready.gs with idleOff := .endless } : Sequencer).idleOff = .endless ∧
      3 ≤ ({ ready.gs with attempts := 3 } : Sequencer).attempts ∧ (ready.port .genset).state = .up ∧
      ready.view.genset = some ⟨⟨.running, 70, none⟩, 0, false⟩ ∧ (State.reset.port .genset).state ≠ .up :=
  ⟨fun _ => rfl, rfl, by decide, rfl, by decide, rfl, rfl, by decide⟩

/-- StartNeedIsEvaluated: start need true, the idle-off timer running and stopped, a cooldown running. -/
theorem test_witness_start_need :
    State.needsStart { parked with gs := { parked.gs with wantedCopy := true } } ∧ ¬ State.reset.needsStart ∧
      ({ ready.gs with idleOff := .running 20000 } : Sequencer).idleOff ≠ .stopped ∧ ready.gs.idleOff = .stopped ∧
      ({ ready.gs with state := .cooldown, cooldown := .running 30000 } : Sequencer).cooldown = .running 30000 ∧
      ready.settings.criticalMark = 150 :=
  ⟨⟨rfl, rfl, rfl, .inl rfl⟩, fun h => absurd h.1 (by decide), by decide⟩

/-- CommitmentsAreHeld and ActivityIsTaken: the commitment held and another; ONLINE and STOPPED, with and without permission. -/
theorem test_witness_commitments :
    driving.gs.heldKw = 80 ∧ driving.gs.heldIndex = some 1 ∧ driving.gs.heldKw ≠ 0 ∧ driving.gs.state = .online ∧
      parked.gs.state = .stopped ∧ parked.permitsStart ∧ ¬ State.reset.permitsStart :=
  ⟨rfl, rfl, by decide, rfl, rfl, ⟨rfl, rfl, .inl rfl⟩, fun h => absurd h.1 (by decide)⟩

/-- ModeLinesAndAllowances: the gate not OPEN, OPEN with a contract and with none; a vector and a draw as held and not. -/
theorem test_witness_modes :
    State.reset.cu.gate ≠ .opened ∧ driving.cu.gate = .opened ∧ driving.cu.active = some ⟨8, hybridTerms⟩ ∧ ready.cu.active = none ∧
      ready.settings.vectors.get .electric = BitVec.ofInt 8 27 ∧ ready.settings.vectors.get .electric ≠ BitVec.ofInt 8 255 ∧
      ready.settings.draws.getD 7 0 = 8 ∧ ready.settings.draws.getD 7 0 ≠ 63 := by decide

/-- TargetAndRampOfARun and DecelerationAndFrictionAreDivided: the speed at, between and above the fade speeds and 0; each forced cause
and none; the previous R at, below and above the target, by the catch-up and by more; an anti-lock flag. -/
theorem test_witness_blend :
    let run := fun (v prev : Nat) (abs1 : Bool) => (⟨v, 250, ⟨150, 280, 70, 95, 115, abs1, false, false, false⟩, some (180, 14),
      true, true, false, prev⟩ : BlendInputs)
    let target := fun i : BlendInputs => (i.run Settings.default true).result.target
    target (run 100 150 false) = 189 ∧ target (run 100 189 true) = 189 ∧ 189 = 89 + 100 ∧ 88 + 100 < 189 ∧ 289 = 189 + 100 ∧
      189 + 100 < 290 ∧ Settings.default.vLo = 20 ∧ 20 < 21 ∧ 49 < Settings.default.vHi ∧ Settings.default.vHi = 50 ∧
      (run 100 150 true).demand.abs1 = true ∧ (run 100 150 false).contract ≠ none ∧ (run 100 150 false).brakeUp = true ∧
      (run 100 150 false).demand.abs3 = false ∧ (run 100 150 false).key = true ∧ (run 0 150 false).v = 0 := by decide

/-- BlendRunsAreTaken: the timer running and stopped. -/
theorem test_witness_blend_timer : braking.blend.timer ≠ .stopped ∧ State.reset.blend.timer = .stopped := by decide

/-- FrictionHeatsWearsAndDiscsCool: the cooling timer running and stopped; a disc above ambient and one at it. -/
theorem test_witness_discs :
    ready.wear.cooling ≠ .stopped ∧ State.reset.wear.cooling = .stopped ∧ 16 * ready.settings.ambient < 321 ∧
      ((320 : Nat) : Int) ≤ 16 * ready.settings.ambient := by decide

/-- PackAndStartHandOffsAreCounted and LevelChangesLatchAndTell: loaded and not, some time and none, some power and none. -/
theorem test_witness_hand_offs :
    ready.loaded = true ∧ State.reset.loaded = false ∧ (1 : Nat) ≠ 0 ∧ (-1 : Int) ≠ 0 := by decide

/-- WheelItemsAreWrittenAndReset: one wheel end and another, the last account and the first number past it. -/
theorem test_witness_wheels : Wheel.l1 ≠ .r3 ∧ (5 : Nat) = Wheel.r3.index ∧ 5 < 8 := by decide

/-- LevelChangesLatchAndTell, within `leveled`: a level that changes on its edge with the latch clear, one that does not change, one off
its edge, one latched. -/
theorem test_witness_levels :
    ready.warn.levels.getLsbD (levelPlace (.fade .l3 true)) = false ∧ levelHolds ready.settings (.fade .l3 true) ∧
      ready.settings.edges.getD (levelPlace (.fade .l3 true)) .rise = .rise ∧
      ready.warn.latched.getLsbD (levelPlace (.fade .l3 true)) = false ∧ ¬ levelHolds ready.settings (.fade .l3 false) ∧
      (0x400#24).getLsbD (levelPlace (.fade .l3 true)) = true := ⟨by decide, rfl, by decide, by decide, fun h : false = true => (nomatch h), by decide⟩

/-- WarningsAreClearedAndSet: a set that names no warning of the table's, a good one, and the last code. -/
theorem test_witness_codes :
    (0x800000#24).getLsbD 23 = true ∧ (0x7FFFFF#24).getLsbD 23 = false ∧ 1 ≤ 23 ∧ 23 ≤ 23 := by decide

/-- ServiceLinkIsServed: the address and another, loaded and not; a reply waiting, a request in process, neither; the clock held. -/
theorem test_witness_service_link :
    ready.loaded = true ∧ ready.svc.address = 0x52 ∧ 0x53 ≠ ready.svc.address ∧ ready.svc.reply = none ∧
      ready.svc.inProcess = none ∧ checkFrame serviceLength (envelope 0x6A []) = .ok (0x6A, []) ∧
      checkFrame serviceLength [0x6A#8, 0#8] = .error .frameLength ∧ decodeService 0x6A [] = some .commit ∧
      decodeService 0x01 [] = none ∧
      (let v : ServicePort := { ready.svc with inProcess := some .commit, hold := some 6, holdTimer := .running 0 };
        v.inProcess = some .commit ∧ v.hold = some 6 ∧ v.holdTimer ≠ .stopped) ∧ State.reset.loaded = false := by decide

/-- ItemsAreReadAndWritten: the last number of the map and one past it, a read-only item, an item with a row of its own, and the three
kinds of plain setting; lawful settings; the quiet zone as it is and changed. -/
theorem test_witness_items :
    itemAssigned 0x605 ∧ ¬ itemAssigned 0x606 ∧ ¬ itemWritable 0x605 ∧ itemWritable 0x554 ∧ itemWritable 0x5B8 ∧
      itemWritable 0x540 ∧ itemWritable 0x5B0 ∧ writeCommand 0x554 false 1 ≠ .writeItem 0x554 false 1 ∧
      writeCommand 0x5B8 false 1 = .writeItem 0x5B8 false 1 ∧ settingRange 0x5B8 = some (0, 127) ∧ settingRange 0x540 = none ∧
      ready.settingsLawful ∧ ready.quiet = false := by
  refine ⟨?_, ?_, ?_, ?_, ?_, ?_, ?_, by decide +kernel, rfl, rfl, rfl, Settings.clampedFrom_iff.mpr (by decide +kernel), rfl⟩ <;>
    (try unfold itemWritable) <;> unfold itemAssigned <;> decide +kernel

/-- StoreWritesBeginAndEnd: each phase, with and without a save that waits, and both states of the save timer. -/
theorem test_witness_store :
    ready.store.phase = .idle ∧ ({ ready.store with phase := .failed } : Store).phase = .failed ∧
      ({ ready.store with phase := .writingSettings Settings.default } : Store).phase = .writingSettings Settings.default ∧
      ({ ready.store with phase := .writingWear WearContents.default } : Store).phase = .writingWear WearContents.default ∧
      ready.store.pendingSave = false ∧ ready.store.saveTimer ≠ .stopped ∧ State.reset.store.saveTimer = .stopped :=
  ⟨rfl, rfl, rfl, rfl, rfl, by decide, rfl⟩

/-- EveryStepKeepsTheContractsLawful: a state with a contract that meets it, and from which a step is taken. -/
theorem test_witness_contracts_lawful :
    driving.cu.restsUnlessOpen ∧ driving.cu.lawful ∧ ∃ t, step { driving with pending := [.commit] } = .next t :=
  ⟨fun h => absurd rfl h,
    ⟨fun a h => by cases h; exact ⟨⟨by decide, by decide, by decide⟩, by decide, by decide⟩, fun p h => absurd h nofun,
      fun _ _ _ h => absurd h nofun, by decide⟩, ⟨_, rfl⟩⟩

/-- EveryStepKeepsTheUnitsLawful: each unit's law holds in the state after reset, and a step is taken from it. -/
theorem test_witness_units_lawful :
    State.reset.gs.lawful ∧ State.reset.auxLawful ∧ State.reset.blend.result.lawful ∧ State.reset.wear.lawful ∧
      State.reset.warningsLawful ∧ State.reset.queuesLawful ∧ State.reset.settingsLawful ∧
      ∃ t, step { State.reset with pending := [.keyOn] } = .next t :=
  ⟨⟨by decide, by decide, by decide, by decide, by decide, by decide⟩, ⟨by decide, fun h => absurd rfl h⟩,
    ⟨by decide, by decide, by decide, by decide, by decide⟩,
    ⟨fun x => by cases x <;> decide, by decide, by decide, by decide, by decide, by decide⟩, ⟨by decide, by decide⟩,
    fun p => by cases p <;> exact List.nodup_nil, Settings.clampedFrom_iff.mpr (by decide +kernel), ⟨_, rfl⟩⟩

end Sys2Proof.Tests
end

/-! ## Offer selection (chapter 2): which candidate a run chooses, and when it chooses none -/

namespace Sys2Proof.Machine

/-! ### The order of keys -/

@[simp] theorem lexBefore_nil_nil : lexBefore [] [] = false := rfl

/-- The first key decides; the others are asked only when it is equal. -/
@[simp] theorem lexBefore_cons {a b : Int} {as bs : List Int} :
    lexBefore (a :: as) (b :: bs) = true ↔ a < b ∨ (a = b ∧ lexBefore as bs = true) := by
  rw [lexBefore]
  split
  · next less => exact iff_of_true rfl (.inl less)
  · next notLess =>
    split
    · next more => exact iff_of_false Bool.false_ne_true (by omega)
    · next notMore =>
      obtain rfl : a = b := by omega
      simp

/-- Of two lists of keys of one length, neither before the other, the keys are the same. -/
theorem eq_of_not_lexBefore {as bs : List Int} (len : as.length = bs.length) (hab : lexBefore as bs = false)
    (hba : lexBefore bs as = false) : as = bs := by
  induction as generalizing bs with
  | nil => exact (List.length_eq_zero_iff.1 len.symm).symm
  | cons a as ih =>
    cases bs with
    | nil => simp at len
    | cons b bs =>
      rw [← Bool.not_eq_true, lexBefore_cons] at hab hba
      obtain rfl : a = b := by omega
      rw [ih (by simpa using len) (by simpa using hab) (by simpa using hba)]

@[simp] theorem num_lt_num {m n : Nat} : num m < num n ↔ m < n := Int.ofNat_lt

@[simp] theorem num_inj {m n : Nat} : num m = num n ↔ m = n := Int.ofNat_inj

/-- The key for the genset offer puts a candidate without one first. -/
theorem flag_isSome_lt {a b : Option Nat} : flag a.isSome < flag b.isSome ↔ a = none ∧ b ≠ none := by
  cases a <;> cases b <;> simp [flag]

theorem flag_isSome_eq {a b : Option Nat} : flag a.isSome = flag b.isSome ↔ (a = none ↔ b = none) := by
  cases a <;> cases b <;> simp [flag]

/-- The lists of keys are compared as the six keys of R28 are in turn. -/
theorem Candidate.keys_before_iff {need : Bool} {c d : Candidate} :
    lexBefore (c.keys need) (d.keys need) = true ↔ c.precedes need d := by
  simp only [Candidate.keys, Candidate.precedes, lexBefore_cons, lexBefore_nil_nil, num_lt_num, num_inj, flag_isSome_lt,
    flag_isSome_eq, Bool.false_eq_true, and_false, or_false]
  cases need with
  | false => simp
  | true =>
    simp only [if_true, true_and, forall_const, Int.neg_lt_neg_iff, Int.neg_inj, num_lt_num, num_inj]

/-- The keys by which R31 chooses: the greatest sum, then the keys of R28. -/
def Candidate.supplyKeys (need : Bool) (c : Candidate) : List Int := -(num c.sum) :: c.keys need

theorem Candidate.supplyKeys_before_iff {need : Bool} {c d : Candidate} :
    lexBefore (c.supplyKeys need) (d.supplyKeys need) = true ↔
      d.sum < c.sum ∨ (d.sum = c.sum ∧ c.precedes need d) := by
  simp only [Candidate.supplyKeys, lexBefore_cons, Candidate.keys_before_iff, Int.neg_lt_neg_iff, Int.neg_inj, num_lt_num,
    num_inj, eq_comm (a := c.sum)]

/-! ### No two candidates of a run have the same keys -/

/-- The last key of R28 stands for the genset index once it is known whether there is one. -/
theorem eq_of_getD_eq {a b : Option Nat} (none_iff : a = none ↔ b = none) (h : a.getD 0 = b.getD 0) : a = b := by
  cases a with
  | none => exact (none_iff.1 rfl).symm
  | some i =>
    cases b with
    | none => exact none_iff.2 rfl
    | some j => exact congrArg some h

/-- The keys of R28 hold both offer indices. -/
theorem Candidate.indices_eq_of_keys_eq {need : Bool} {c d : Candidate} (h : c.keys need = d.keys need) :
    c.storageIndex = d.storageIndex ∧ c.gensetIndex = d.gensetIndex := by
  simp only [Candidate.keys, List.cons.injEq, flag_isSome_eq, num_inj] at h
  obtain ⟨-, -, paired, -, storage, genset, -⟩ := h
  exact ⟨storage, eq_of_getD_eq paired genset⟩

/-- A candidate is settled by its offer indices (R26). -/
theorem candidate_eq_of_indices_eq {x : Inputs} {online : Bool} {c d : Candidate} (hc : c ∈ x.candidates online)
    (hd : d ∈ x.candidates online) (hs : c.storageIndex = d.storageIndex) (hg : c.gensetIndex = d.gensetIndex) : c = d := by
  obtain ⟨i, o, ho, -, hc⟩ := mem_candidates.1 hc
  obtain ⟨i', o', ho', -, hd⟩ := mem_candidates.1 hd
  rcases hc with rfl | ⟨-, j, g, hj, -, rfl, -⟩
  · rcases hd with rfl | ⟨-, j', g', hj', -, rfl, -⟩
    · obtain rfl : i = i' := Nat.add_right_cancel hs
      obtain rfl : o = o' := Option.some.inj (ho.symm.trans ho')
      rfl
    · cases hg
  · rcases hd with rfl | ⟨-, j', g', hj', -, rfl, -⟩
    · cases hg
    · obtain rfl : i = i' := Nat.add_right_cancel hs
      obtain rfl : j = j' := Nat.add_right_cancel (Option.some.inj hg)
      obtain rfl : o = o' := Option.some.inj (ho.symm.trans ho')
      obtain rfl : g = g' := Option.some.inj (hj.symm.trans hj')
      rfl

theorem candidate_eq_of_keys_eq {x : Inputs} {online need : Bool} {c d : Candidate} (hc : c ∈ x.candidates online)
    (hd : d ∈ x.candidates online) (h : c.keys need = d.keys need) : c = d :=
  have ⟨hs, hg⟩ := Candidate.indices_eq_of_keys_eq h
  candidate_eq_of_indices_eq hc hd hs hg

/-! ### The best candidate (R28) -/

/-- A list that is not empty has a best element. -/
theorem exists_bestBy {keys : Candidate → List Int} {cs : List Candidate} {c : Candidate} (h : c ∈ cs) :
    ∃ w, bestBy keys cs = some w :=
  Option.ne_none_iff_exists'.1 fun e => List.ne_nil_of_mem h (bestBy_none e)

/-- The best element comes before every one whose keys are not its own. -/
theorem bestBy_before {keys : Candidate → List Int} {n : Nat} (len : ∀ c, (keys c).length = n) {cs : List Candidate}
    {w c : Candidate} (h : bestBy keys cs = some w) (hc : c ∈ cs) (ne : keys c ≠ keys w) :
    lexBefore (keys w) (keys c) = true := by
  rw [← Bool.not_eq_false]
  exact fun e => ne (eq_of_not_lexBefore ((len c).trans (len w).symm) (bestBy_first len h hc) e)

/-! ### What a pass finds (R28, R31, R32) -/

/-- The candidates that carry their own aux allowance, of which R31 chooses. -/
def carryingAux (cs : List Candidate) : List Candidate := cs.filter fun c => decide (c.aux ≤ c.sum)

@[simp] theorem mem_carryingAux {cs : List Candidate} {c : Candidate} : c ∈ carryingAux cs ↔ c ∈ cs ∧ c.aux ≤ c.sum := by
  rw [carryingAux, List.mem_filter, decide_eq_true_iff]

/-- With a candidate covered, the terms are those of the first covered one (R28). -/
theorem choose_of_covered {x : Inputs} {cs : List Candidate} {w : Candidate}
    (h : bestBy (Candidate.keys x.need) (cs.filter (·.covered)) = some w) : x.choose cs = .ok (x.coveredTerms w) := by
  rw [Inputs.choose, h]

/-- With none covered, the terms are those of the first, by the keys of R31, that carries its own aux allowance. -/
theorem choose_of_short {x : Inputs} {cs : List Candidate} {w : Candidate} (none_covered : cs.filter (·.covered) = [])
    (h : bestBy (Candidate.supplyKeys x.need) (carryingAux cs) = some w) : x.choose cs = .ok (x.shortTerms w) := by
  unfold carryingAux Candidate.supplyKeys at h
  simp only [Inputs.choose, none_covered, bestBy, h]

/-- No terms are formed just when no candidate is covered or carries its own aux allowance (R32). -/
theorem choose_eq_error_iff {x : Inputs} {cs : List Candidate} {r : SelectionReason} :
    x.choose cs = .error r ↔
      (∀ c ∈ cs, c.covered = false ∧ c.sum < c.aux) ∧ r = if cs = [] then .noStorageOffer else .supplyBelowAux := by
  constructor
  · intro h
    rw [Inputs.choose] at h
    split at h
    · cases h
    · next hcov =>
      split at h
      · cases h
      · next haux =>
        have hcov := List.filter_eq_nil_iff.1 (bestBy_none hcov)
        have haux := List.filter_eq_nil_iff.1 (bestBy_none haux)
        exact ⟨fun c hc => ⟨by simpa using hcov c hc, by simpa using haux c hc⟩, by simpa using (Except.error.inj h).symm⟩
  · rintro ⟨h, rfl⟩
    have hcov : cs.filter (·.covered) = [] := List.filter_eq_nil_iff.2 fun c hc => by simp [(h c hc).1]
    have haux : cs.filter (fun c => decide (c.aux ≤ c.sum)) = [] :=
      List.filter_eq_nil_iff.2 fun c hc => by simpa using (h c hc).2
    simp only [Inputs.choose, hcov, haux, bestBy, List.isEmpty_iff]

/-- A pass chooses among the candidates it forms. -/
theorem pass_result {x : Inputs} {online : Bool} : (x.pass online).result = x.choose (x.candidates online) := rfl

/-- Settles O9: the best of the covered candidates is before each other one, since no two candidates share their keys. -/
theorem winnerIsFirstOfTheCovered : Obligations.WinnerIsFirstOfTheCovered := by
  rintro x online ⟨c₀, hc₀, cov₀⟩
  obtain ⟨w, best⟩ := exists_bestBy (keys := Candidate.keys x.need)
    (List.mem_filter.2 ⟨hc₀, cov₀⟩ : c₀ ∈ (x.candidates online).filter (·.covered))
  obtain ⟨hw, wcov⟩ := List.mem_filter.1 (bestBy_mem best)
  refine ⟨w, hw, wcov, fun c hc cov ne => ?_, x.coveredTerms w, pass_result.trans (choose_of_covered best),
    rfl, rfl, rfl, rfl, rfl, rfl, rfl, rfl, rfl, rfl, rfl, rfl, rfl, rfl⟩
  have len : ∀ c : Candidate, (c.keys x.need).length = 6 := fun _ => rfl
  have hmem := List.mem_filter.2 ⟨hc, cov⟩
  have first := bestBy_first len best hmem
  have before := bestBy_before len best hmem fun e => ne (candidate_eq_of_keys_eq hc hw e)
  rw [← Bool.not_eq_true, Candidate.keys_before_iff] at first
  exact ⟨Candidate.keys_before_iff.1 before, first⟩

/-- Settles O10: of the candidates that carry their aux allowance, the best by the sum and then the keys of R28. -/
theorem shortSupplyFormsMismatchTerms : Obligations.ShortSupplyFormsMismatchTerms := by
  rintro x online uncovered ⟨c₀, hc₀, aux₀⟩
  have none_covered : (x.candidates online).filter (·.covered) = [] :=
    List.filter_eq_nil_iff.2 fun c hc => by simp [uncovered c hc]
  obtain ⟨w, best⟩ := exists_bestBy (keys := Candidate.supplyKeys x.need) (mem_carryingAux.2 ⟨hc₀, aux₀⟩)
  obtain ⟨hw, waux⟩ := mem_carryingAux.1 (bestBy_mem best)
  have no_power := (candidate_sound hw).power
  refine ⟨w, hw, waux, fun c hc caux ne => ?_, x.shortTerms w, pass_result.trans (choose_of_short none_covered best),
    rfl, fun alone => ?_, fun _ within => ⟨Nat.sub_eq_zero_of_le within, Nat.min_eq_right within⟩,
    fun _ beyond => ⟨rfl, Nat.min_eq_left (Nat.le_of_lt beyond)⟩, rfl, rfl, rfl, rfl, rfl, rfl, rfl, rfl, rfl, rfl, rfl⟩
  · have len : ∀ c : Candidate, (c.supplyKeys x.need).length = 7 := fun _ => rfl
    exact Candidate.supplyKeys_before_iff.1 (bestBy_before len best (mem_carryingAux.2 ⟨hc, caux⟩)
      fun e => ne (candidate_eq_of_keys_eq hc hw (List.cons.inj e).2))
  · simp [Inputs.shortTerms, no_power alone]

/-! ### Runs that form no candidate -/

theorem usableStorage_eq_false_iff {o : Offer} {quiet : Bool} :
    o.usableStorage quiet = false ↔ o.excluded = true ∨ o.expired = true ∨ (quiet = true ∧ o.quiet = false) := by
  simp only [Offer.usableStorage, Offer.standsIn, Bool.and_eq_false_iff, Bool.or_eq_false_iff, Bool.not_eq_false']

/-- A usable storage offer forms a candidate by itself, so there is none only when no storage offer is usable (R26). -/
theorem candidates_eq_nil_iff {x : Inputs} {online : Bool} :
    x.candidates online = [] ↔ ∀ o ∈ x.storage, o.usableStorage x.quiet = false := by
  rw [List.eq_nil_iff_forall_not_mem]
  constructor
  · intro h o ho
    obtain ⟨i, hi⟩ := List.getElem?_of_mem ho
    rw [← Bool.not_eq_true]
    exact fun usable => h _ (mem_candidates.2 ⟨i, o, hi, usable, .inl rfl⟩)
  · intro h c hc
    obtain ⟨i, o, hi, usable, -⟩ := mem_candidates.1 hc
    simp [h o (List.mem_of_getElem? hi)] at usable

/-- Settles O11: the reasons of `choose_eq_error_iff`, told apart by whether a candidate is formed. -/
theorem noTermsInTwoCases : Obligations.NoTermsInTwoCases := by
  intro x online
  simp only [pass_result, choose_eq_error_iff]
  refine ⟨by simp only [candidates_eq_nil_iff, usableStorage_eq_false_iff], ?_, ?_, ?_⟩
  · constructor
    · rintro ⟨-, h⟩
      split at h
      · next none_formed => exact none_formed
      · cases h
    · intro none_formed
      simp [none_formed]
  · constructor
    · rintro ⟨h, e⟩
      exact ⟨fun none_formed => by simp [none_formed] at e, h⟩
    · rintro ⟨formed, h⟩
      exact ⟨h, by simp [formed]⟩
  · rintro r ⟨-, rfl⟩
    split
    · exact .inl rfl
    · exact .inr rfl

end Sys2Proof.Machine

/-! ## The division of a blend run (chapter 6): its deceleration, its friction among the axles and the wheel ends -/

namespace Sys2Proof.Machine

/-! ### The deceleration (R110) -/

theorem clip_le_demand (pDem rStorage r : Nat) : clip pDem rStorage r ≤ pDem :=
  (Nat.min_le_left _ _).trans (Nat.min_le_right _ _)

/-- A run applies no more than the demand power: a forced zero applies 0, and the clip bounds every other run (R107, R108). -/
theorem run_applied_le_pDem (x : Settings) (i : BlendInputs) (periodic : Bool) :
    (i.run x periodic).result.applied ≤ (i.run x periodic).result.pDem := by
  simp only [BlendInputs.run]
  split
  · exact Nat.zero_le _
  · exact clip_le_demand _ _ _

theorem regenDeceleration_of_moving {r m v : Nat} (moving : 0 < v) : regenDeceleration r m v = r * 10000 / (m * v) :=
  if_neg moving.ne'

/-- Power within the demand power decelerates by no more than the demand, though the demand power may be saturated (R102, R110). -/
theorem regenDeceleration_le {r m d v : Nat} (h : r ≤ demandPower m d v) : regenDeceleration r m v ≤ d := by
  rw [regenDeceleration]
  split
  · exact Nat.zero_le d
  · have unsaturated : r ≤ m * d * v / 10000 := h.trans (Nat.min_le_right _ _)
    refine Nat.div_le_of_le_mul ?_
    calc r * 10000 ≤ m * d * v := (Nat.le_div_iff_mul_le (by decide)).1 unsaturated
      _ = m * v * d := Nat.mul_right_comm m d v

/-! ### The friction (R111) -/

/-- Three parts of `f` wholes, each rounded down, lose at most two wholes together. -/
theorem sum_floors_of_three {a b c f n : Nat} (pos : 0 < n) (whole : a + b + c = f * n) :
    a / n + b / n + c / n ≤ f ∧ f ≤ a / n + b / n + c / n + 2 := by
  have f_eq : f = (a + b + c) / n := by rw [whole, Nat.mul_div_cancel f pos]
  have ab_le : a / n + b / n ≤ (a + b) / n := Nat.div_add_div_le_add_div
  have abc_le : (a + b) / n + c / n ≤ (a + b + c) / n := Nat.div_add_div_le_add_div
  have le_ab := Nat.add_div_le_div_add_div_add_one a b n
  have le_abc := Nat.add_div_le_div_add_div_add_one (a + b) c n
  omega

/-- The axles' parts before the remainder leave at most 2 kW, whether the loads or the shares of 30, 30 and 40 divide them. -/
theorem sum_axleParts (f l1 l2 l3 : Nat) :
    let t := l1 + l2 + l3
    let parts := axlePart f l1 t 30 + axlePart f l2 t 30 + axlePart f l3 t 40
    parts ≤ f ∧ f ≤ parts + 2 := by
  by_cases unknown : l1 + l2 + l3 = 0
  · simp only [axlePart, if_pos unknown]
    exact sum_floors_of_three (by decide) (by omega)
  · simp only [axlePart, if_neg unknown]
    exact sum_floors_of_three (Nat.pos_of_ne_zero unknown) (by rw [Nat.mul_add, Nat.mul_add])

/-- Axle 1 takes its part and a remainder of at most 2 kW. -/
theorem splitAxles_first (f l1 l2 l3 : Nat) :
    ∃ rest, rest ≤ 2 ∧ (splitAxles f l1 l2 l3).1 = axlePart f l1 (l1 + l2 + l3) 30 + rest :=
  ⟨_, Nat.sub_le_iff_le_add'.2 (sum_axleParts f l1 l2 l3).2, rfl⟩

/-- With the remainder, the three axles take all the friction power. -/
theorem splitAxles_sum (f l1 l2 l3 : Nat) :
    (splitAxles f l1 l2 l3).1 + (splitAxles f l1 l2 l3).2.1 + (splitAxles f l1 l2 l3).2.2 = f := by
  have parts_le := (sum_axleParts f l1 l2 l3).1
  simp only [splitAxles]
  omega

/-- The two wheel ends of each axle take all its power. -/
theorem splitWheels_sum (f1 f2 f3 : Nat) :
    let w := splitWheels f1 f2 f3
    w.l1 + w.r1 + w.l2 + w.r2 + w.l3 + w.r3 = f1 + f2 + f3 := by
  simp only [splitWheels]
  omega

/-- Settles O47: the power applied is within the demand power, so neither difference of R110 is cut off at 0; and the parts of R111
are within the friction, so the remainder makes the axles' sum exact. -/
theorem decelerationAndFrictionAreDivided : Obligations.DecelerationAndFrictionAreDivided := by
  intro x i periodic r d total part
  have applied_le : r.applied ≤ r.pDem := run_applied_le_pDem x i periodic
  have dRegen_le : r.dRegen ≤ d.d := regenDeceleration_le applied_le
  have axles_sum : r.axle1 + r.axle2 + r.axle3 = r.friction := splitAxles_sum r.friction d.load1 d.load2 d.load3
  exact ⟨fun still => if_pos still, regenDeceleration_of_moving, Nat.add_sub_cancel' dRegen_le, Nat.add_sub_cancel' applied_le,
    splitAxles_first r.friction d.load1 d.load2 d.load3, rfl, rfl, axles_sum, rfl, rfl, rfl, rfl, rfl, rfl,
    (splitWheels_sum r.axle1 r.axle2 r.axle3).trans axles_sum⟩

end Sys2Proof.Machine

/-! ## What a command may change: the frame of every command, and of a step -/

namespace Sys2Proof.Machine

/-- The outcome is a next state, which differs from `s` in these parts at most and keeps its queues lawful. -/
def Answers (l : List Piece) (s : State) (o : Host.Outcome State Fault Refusal) : Prop := ∃ t, o = .next t ∧ Tidy l s t

theorem Answers.next {l m : List Piece} {s t : State} (h : Tidy l s t) (sub : l ⊆ m) : Answers m s (.next t) :=
  ⟨t, rfl, h.mono sub⟩

theorem Answers.same (l : List Piece) (s : State) : Answers l s (.next s) := ⟨s, rfl, Tidy.refl l s⟩

theorem Answers.ite {l : List Piece} {s : State} {b : Prop} [Decidable b] {o p : Host.Outcome State Fault Refusal}
    (h : Answers l s o) (g : Answers l s p) : Answers l s (if b then o else p) := by
  split
  · exact h
  · exact g

/-- A change of some parts and then of others is a change of all of them. -/
theorem Tidy.after {l m k : List Piece} {s t u : State} (h : Tidy l s t) (g : Tidy m t u) (hl : l ⊆ k) (hm : m ⊆ k) :
    Tidy k s u := (h.mono hl).trans (g.mono hm)

/-- Taking a signal and then acting on it. -/
theorem Answers.consumed {l m : List Piece} {s t : State} {c : Instr} (h : Tidy l (s.consume c) t) (hl : l ⊆ m)
    (sig : [Piece.signals] ⊆ m) : Answers m s (.next t) := ⟨t, rfl, (within_consume s c).after h sig hl⟩

/-- An operation and then the reply to a service request. -/
theorem Answers.replied {l m : List Piece} {s t : State} (h : Tidy l s t) (hl : l ⊆ m) (svc : [Piece.svc] ⊆ m) {i : Instr}
    {k : Nat} {o : Answer} {b : Bool} {content : List Byte} : Answers m s (.next (t.serviceAnswer i k o b content)) :=
  ⟨_, rfl, h.after (within_serviceAnswer _ _ _ _ _ _) hl svc⟩

/-! ### Power, key and reset -/

theorem within_powerOn (s : State) (store : Store) (n : Nat) :
    Tidy allPieces s { State.reset with key := s.key, store := store, freeCount := n, pending := s.pending } := by
  refine ⟨fun p hp => ?_, fun _ p => ?_⟩
  · cases p with
    | pending => rfl
    | _ => exact absurd (by decide) hp
  · cases p <;> exact List.nodup_nil

theorem within_loadImages (s : State) : Tidy [.settings, .wear, .store] s s.loadImages :=
  ⟨fun p hp => by cases p <;> first | rfl | exact absurd (by decide) hp, fun h => h⟩

theorem within_startUnits (s : State) : Tidy [.loaded, .aux, .blend, .svc] s s.startUnits :=
  ⟨fun p hp => by cases p <;> first | rfl | exact absurd (by decide) hp, fun h => h⟩

theorem within_firstEvaluation (s : State) : Tidy [.warn, .ports] s s.firstEvaluation :=
  (within_takeLevels s _).trans ((within_refreshWarnings _).mono (by decide))

theorem settingsLoadEnd_answers (s : State) : Answers (footprint .settingsLoadEnd) s (execSettingsLoadEnd s) := by
  unfold execSettingsLoadEnd
  refine Answers.ite (Answers.same _ s) ?_
  have loaded := (within_loadImages s).after (within_startUnits _) (k := footprint .settingsLoadEnd) (by decide) (by decide)
  have evaluated := (within_raise s.loadImages.startUnits (.fadeCopyUpdate s.loadImages.startUnits.wear.anyFade)).after
    (within_firstEvaluation _) (k := footprint .settingsLoadEnd) (by decide) (by decide)
  exact ⟨_, rfl, (loaded.trans evaluated).trans (Tidy.ite ((within_keyTaken _).mono (by decide)) (Tidy.refl _ _))⟩

theorem keyOn_answers (s : State) : Answers (footprint .keyOn) s (execKeyOn s) := by
  unfold execKeyOn
  refine Answers.ite (Answers.same _ s) ⟨_, rfl, ?_⟩
  exact (within_key s true).after (Tidy.ite (within_keyTaken _) (Tidy.refl _ _)) (by decide) (by decide)

theorem keyOff_answers (s : State) : Answers (footprint .keyOff) s (execKeyOff s) := by
  unfold execKeyOff
  refine Answers.ite ⟨_, rfl, ?_⟩ (Answers.same _ s)
  exact (within_key s false).after (Tidy.ite (within_keyLost _) (Tidy.refl _ _)) (by decide) (by decide)

theorem drivelineReset_answers (s : State) : Answers (footprint .drivelineReset) s (execDrivelineReset s) := by
  refine Answers.replied (((within_drivelineReset s).after (within_deriveMode _) (k := footprint .drivelineReset) ?_ ?_).after
    (within_testGate _) (k := footprint .drivelineReset) ?_ ?_) ?_ ?_
  all_goals decide

/-! ### The partner ports and the View -/

theorem within_deadExchange (s : State) (p : Port) (n : Nat) : Tidy [.ports] s (s.deadExchange p n) :=
  within_onPort s p fun h => h

theorem spiExchange_answers (p : Port) (e : SpiEvent) (s : State) : Answers [.ports, .signals] s (execSpiExchange p e s) := by
  unfold execSpiExchange
  split
  · cases e with
    | whole bytes => exact ⟨_, rfl, (within_selectFalls s p).after (within_selectRises _ p bytes) (by decide) (by decide)⟩
    | selectFalls => exact Answers.next (within_selectFalls s p) (by decide)
    | selectRises bytes => exact Answers.next (within_selectRises s p bytes) (by decide)
  · cases e with
    | whole bytes => exact Answers.next (within_deadExchange s p _) (by decide)
    | selectFalls => exact Answers.same _ s
    | selectRises bytes => exact Answers.next (within_deadExchange s p _) (by decide)

/-- A report stored and answered, before its signals. -/
theorem within_stored (s : State) (v : View) (p : Port) (i : Instr) (k : Nat) (o : Answer) (b : Bool) :
    Tidy [.view, .ports, .signals] s (({ s with view := v } : State).answer p i k o b) :=
  (within_view s v).after (within_answer _ p i k o b []) (by decide) (by decide)

theorem tractionReport_answers (r : TractionReport) (s : State) :
    Answers [.view, .ports, .signals] s (execTractionReport r s) :=
  ⟨_, rfl, (within_stored s _ _ _ _ _ _).trans
    ((within_raise _ _).after (within_raiseIf _ _ _) (by decide) (by decide))⟩

theorem packReport_answers (r : PackReport) (s : State) : Answers [.view, .ports, .signals] s (execPackReport r s) :=
  ⟨_, rfl, (within_stored s _ _ _ _ _ _).trans
    (((within_raise _ _).after (within_raiseIf _ _ _) (k := [.signals]) (by decide) (by decide)).after
      (within_raise _ _) (by decide) (by decide))⟩

theorem gensetReport_answers (r : RawGensetReport) (s : State) : Answers [.view, .ports, .signals] s (execGensetReport r s) :=
  ⟨_, rfl, (within_stored s _ _ _ _ _ _).trans ((within_raise _ _).mono (by decide))⟩

theorem brakeDemand_answers (r : BrakeDemand) (s : State) : Answers [.view, .ports, .signals] s (execBrakeDemand r s) :=
  ⟨_, rfl, (within_stored s _ _ _ _ _ _).trans
    ((within_raiseIf _ _ _).after (within_raiseIf _ _ _) (by decide) (by decide))⟩

theorem within_storeOffers (s : State) (sup : Supplier) (es : List RawOffer) : Tidy [.view] s (s.storeOffers sup es) := by
  cases sup <;> exact within_view s _

theorem offerList_answers (sup : Supplier) (es : List RawOffer) (s : State) :
    Answers [.view, .ports, .signals] s (execOfferList sup es s) := by
  unfold execOfferList
  refine Answers.ite ⟨_, rfl, ?_⟩ (Answers.next (within_answer s _ _ _ _ _ _) (by decide))
  exact ((within_storeOffers s sup es).after (within_answer _ _ _ _ _ _ _) (k := [.view, .ports, .signals]) (by decide)
    (by decide)).trans ((within_raise _ _).mono (by decide))

theorem portStateView_answers (p : Port) (now : PortState) (s : State) :
    Answers [.view, .signals] s (execPortStateView p now s) := by
  unfold execPortStateView
  cases now with
  | up => exact Answers.consumed (Tidy.refl [.view] _) (by decide) (by decide)
  | lost => exact Answers.consumed (within_view _ _) (by decide) (by decide)
  | down => exact Answers.consumed (within_view _ _) (by decide) (by decide)

theorem silenceTimerExpiry_answers (p : Port) (s : State) :
    Answers [.ports, .signals] s (execSilenceTimerExpiry p s) := by
  unfold execSilenceTimerExpiry
  refine Answers.ite ⟨_, rfl, ?_⟩ (Answers.same _ s)
  exact (within_onPort s p fun h => h).after (within_portChanged _ _ _ _) (by decide) (by decide)

theorem portReset_answers (n : Nat) (s : State) : Answers (footprint (.portReset n)) s (execPortReset n s) := by
  unfold execPortReset
  split
  · exact Answers.replied (within_resetPort s _) (by simp [footprint]) (by simp [footprint])
  · exact Answers.next (within_serviceAnswer s _ _ _ _ _) (by simp [footprint])

theorem tallyClear_answers (n : Nat) (s : State) : Answers [.ports, .svc] s (execTallyClear n s) := by
  unfold execTallyClear
  split
  · exact Answers.replied (within_onPort s _ fun h => h) (by decide) (by decide)
  · exact Answers.next (within_serviceAnswer s _ _ _ _ _) (by decide)

/-! ### The contract protocol -/

theorem accept_answers (party : Party) (n : Nat) (s : State) : Answers contractPieces s (execAccept party n s) := by
  have reply : ∀ (t : State) (o : Answer), Tidy contractPieces t (t.answer party.port (.accept party n) 0x20 o false) :=
    fun t o => (within_answer t _ _ _ _ _ _).mono (by decide)
  unfold execAccept
  refine Answers.ite ⟨_, rfl, reply s _⟩ ?_
  split
  · exact ⟨_, rfl, reply s _⟩
  · refine Answers.ite ⟨_, rfl, reply s _⟩ ?_
    have marked := fun f => ((within_onCu s f).mono (show _ ⊆ contractPieces by decide)).trans (reply _ .done)
    refine Answers.ite ⟨_, rfl, marked _⟩ (Answers.ite ⟨_, rfl, (marked _).trans (within_activate _ _)⟩ ⟨_, rfl, marked _⟩)

theorem decline_answers (party : Party) (n reason : Nat) (s : State) :
    Answers contractPieces s (execDecline party n reason s) := by
  have reply : ∀ o : Answer,
      Tidy contractPieces s (s.answer party.port (.decline party n reason) 0x21 o (decide (3 < reason))) :=
    fun o => (within_answer s _ _ _ _ _ _).mono (by decide)
  unfold execDecline
  refine Answers.ite ⟨_, rfl, reply _⟩ ?_
  split
  · exact ⟨_, rfl, reply _⟩
  · exact Answers.ite ⟨_, rfl, reply _⟩ ⟨_, rfl, ((reply _).trans (within_discard _ _ _ _)).trans (within_continueRound _ _)⟩

theorem yieldPower_answers (p : Port) (kw : Nat) (s : State) : Answers contractPieces s (execYieldPower p kw s) := by
  have reply : ∀ (o : Answer) (b : Bool), Tidy contractPieces s (s.answer p (.yieldPower p kw) 0x22 o b) :=
    fun o b => (within_answer s _ _ _ _ _ _).mono (by decide)
  unfold execYieldPower
  dsimp only
  split
  · exact ⟨_, rfl, reply _ _⟩
  · exact Answers.ite ⟨_, rfl, (reply _ _).trans (within_takeYield _ _ _)⟩ ⟨_, rfl, reply _ _⟩

theorem portStateContract_answers (p : Port) (now : PortState) (s : State) :
    Answers contractPieces s (execPortStateContract p now s) := by
  unfold execPortStateContract
  dsimp only
  cases p with
  | traction => exact Answers.consumed (Tidy.ite (within_drop _ _) (within_testGate _)) (by decide) (by decide)
  | pack => exact Answers.consumed (Tidy.ite (within_drop _ _) (within_testGate _)) (by decide) (by decide)
  | genset => exact Answers.consumed (Tidy.ite (within_declineLost _) (Tidy.refl _ _)) (by decide) (by decide)
  | brake => exact Answers.consumed (Tidy.refl contractPieces _) (by decide) (by decide)

theorem latePortUpNotice_answers (p : Port) (s : State) : Answers [.ports, .signals] s (execLatePortUpNotice p s) := by
  unfold execLatePortUpNotice
  refine Answers.ite ?_ ?_
  · exact Answers.consumed (within_sendContract _ _ _) (by decide) (by decide)
  · exact Answers.consumed (Tidy.refl [.ports] _) (by decide) (by decide)

theorem arrivalNotice_answers (kind : ArrivalKind) (ch : ChangeSet) (s : State) :
    Answers contractPieces s (execArrivalNotice kind ch s) := by
  unfold execArrivalNotice
  dsimp only
  have noted : Tidy contractPieces s ((s.consume (.arrivalNotice kind ch)).noteArrival kind) :=
    (within_consume s _).after (within_noteArrival _ _) (by decide) (by decide)
  have needed := noted.trans (Tidy.ite (b := ch.chargeMark = true) ((within_evaluateNeed _).mono (by decide)) (Tidy.refl _ _))
  exact Answers.ite ⟨_, rfl, needed.trans (within_takeChanges _ _ _ _)⟩ ⟨_, rfl, needed.trans (within_testGate _)⟩

theorem acceptanceWindowExpiry_answers (s : State) : Answers contractPieces s (execAcceptanceWindowExpiry s) := by
  unfold execAcceptanceWindowExpiry
  refine Answers.ite ?_ (Answers.same _ s)
  split
  · exact Answers.next (within_onCu s _) (by decide)
  · exact ⟨_, rfl, (within_discard s _ _ _).trans (within_continueRound _ _)⟩

theorem roundRestExpiry_answers (s : State) : Answers contractPieces s (execRoundRestExpiry s) := by
  unfold execRoundRestExpiry
  exact Answers.ite ⟨_, rfl, ((within_onCu s _).mono (by decide)).trans (within_trigger _)⟩ (Answers.same _ s)

theorem peakExpiry_answers (s : State) : Answers contractPieces s (execPeakExpiry s) := by
  unfold execPeakExpiry
  refine Answers.ite ⟨_, rfl, ?_⟩ (Answers.same _ s)
  have marked := (within_onCu s fun c => { c with peak := .stopped }).after (within_markExpired _) (k := contractPieces) (by decide)
    (by decide)
  exact ((marked.trans (within_withdraw _)).trans (within_reduceAtPeak _)).trans (within_trigger _)

/-- A signal that is a trigger and nothing else. -/
theorem trigger_answers (c : Instr) (s : State) : Answers contractPieces s (.next (s.consume c).trigger) :=
  Answers.consumed (within_trigger _) (by decide) (by decide)

theorem gensetLeavesOnline_answers (s : State) : Answers contractPieces s (execGensetLeavesOnline s) := by
  unfold execGensetLeavesOnline
  refine Answers.ite ?_ ?_
  · exact Answers.consumed ((within_takeLeaving _).trans (within_trigger _)) (by decide) (by decide)
  · exact Answers.consumed (Tidy.refl contractPieces _) (by decide) (by decide)

theorem derateChange_answers (s : State) : Answers contractPieces s (execDerateChange s) := by
  unfold execDerateChange
  refine Answers.ite ?_ ?_
  · exact Answers.consumed ((within_takeDerate _).trans (within_trigger _)) (by decide) (by decide)
  · exact Answers.consumed (Tidy.refl contractPieces _) (by decide) (by decide)

/-! ### The Genset Sequencer -/

theorem portStateSequencer_answers (now : PortState) (s : State) : Answers gensetPieces s (execPortStateSequencer now s) := by
  have gone : ∀ t : State, Tidy gensetPieces t t.gensetPortGone := fun t => within_lockOut t _ _
  unfold execPortStateSequencer
  cases now with
  | up => exact Answers.consumed (within_evaluateStart _) (by decide) (by decide)
  | lost =>
    refine Answers.ite ?_ ?_
    · exact Answers.consumed (Tidy.refl gensetPieces _) (by decide) (by decide)
    · exact Answers.consumed (gone _) (by decide) (by decide)
  | down =>
    refine Answers.ite ?_ ?_
    · exact Answers.consumed (Tidy.refl gensetPieces _) (by decide) (by decide)
    · exact Answers.consumed (gone _) (by decide) (by decide)

theorem gensetWantedChange_answers (w : Bool) (cause : WantCause) (s : State) :
    Answers gensetPieces s (execGensetWantedChange w cause s) :=
  Answers.consumed ((((within_onGs _ _).mono (by decide)).trans (within_evaluateStart _)).trans (within_applyIdleRule _))
    (by decide) (by decide)

theorem commitmentHanded_answers (kw : Nat) (index : Option Nat) (s : State) :
    Answers gensetPieces s (execCommitmentHanded kw index s) := by
  unfold execCommitmentHanded
  refine Answers.ite ?_ ?_
  · exact Answers.consumed (Tidy.refl gensetPieces _) (by decide) (by decide)
  · refine Answers.consumed (l := gensetPieces) (c := .commitmentHanded kw index) ?_ (by decide) (by decide)
    refine Tidy.trans ?_ (within_applyIdleRule _)
    exact (within_onGs _ _).after (Tidy.ite (within_operate _) (Tidy.refl _ _)) (by decide) (by decide)

theorem quietZoneSequencer_answers (on : Bool) (s : State) : Answers gensetPieces s (execQuietZoneSequencer on s) :=
  Answers.consumed ((Tidy.ite (within_zoneSet _) (Tidy.refl _ _)).trans (within_evaluateStart _)) (by decide) (by decide)

theorem crankTimerExpiry_answers (s : State) : Answers gensetPieces s (execCrankTimerExpiry s) := by
  unfold execCrankTimerExpiry
  refine Answers.ite (Answers.ite ⟨_, rfl, ?_⟩ ⟨_, rfl, ?_⟩) (Answers.same _ s)
  · exact (within_onGs s _).after (within_command _ _ _ _) (by decide) (by decide)
  · exact (within_lockOut s _ _).trans ((within_command _ _ _ _).mono (by decide))

theorem restTimerExpiry_answers (s : State) : Answers gensetPieces s (execRestTimerExpiry s) := by
  unfold execRestTimerExpiry
  exact Answers.ite ⟨_, rfl, ((within_onGs s _).mono (by decide)).trans (within_enterStopped _)⟩ (Answers.same _ s)

theorem warmTimerExpiry_answers (s : State) : Answers gensetPieces s (execWarmTimerExpiry s) := by
  unfold execWarmTimerExpiry
  exact Answers.ite ⟨_, rfl, within_enterOnline s⟩ (Answers.same _ s)

theorem idleOffExpiry_answers (s : State) : Answers gensetPieces s (execIdleOffExpiry s) := by
  unfold execIdleOffExpiry
  split
  · exact ⟨_, rfl, (within_idleOffEnds s _).trans (within_evaluateStart _)⟩
  · exact Answers.same _ s
  · exact Answers.same _ s

theorem cooldownTimerExpiry_answers (s : State) : Answers gensetPieces s (execCooldownTimerExpiry s) := by
  unfold execCooldownTimerExpiry
  refine Answers.ite ⟨_, rfl, ?_⟩ (Answers.same _ s)
  exact ((within_onGs s _).after (within_command _ _ _ _) (by decide) (by decide)).trans (within_enterStopped _)

theorem clearLockout_answers (s : State) : Answers (.svc :: gensetPieces) s (execClearLockout s) := by
  refine Answers.replied (l := gensetPieces) ?_ (by decide) (by decide)
  exact Tidy.ite (((within_onGs s _).mono (by decide)).trans (within_leaveLockout _)) (Tidy.refl _ s)

theorem activity_answers (s : State) : Answers (.svc :: gensetPieces) s (execActivity s) :=
  Answers.replied (((within_takeActivity s _).mono (by decide)).trans (within_serviceStart _)) (by decide) (by decide)

/-! ### Outputs, blend, wear and warnings -/

theorem portStateBlend_answers (p : Port) (now : PortState) (s : State) :
    Answers [.blend, .ports, .signals] s (execPortStateBlend p now s) := by
  unfold execPortStateBlend
  refine Answers.ite ?_ (Answers.ite ?_ ?_)
  · exact Answers.consumed (within_blend _ _) (by decide) (by decide)
  · exact Answers.consumed (within_blendRun _ _) (by decide) (by decide)
  · exact Answers.consumed (Tidy.refl [.blend] _) (by decide) (by decide)

theorem blendTimerExpiry_answers (s : State) : Answers [.blend, .ports, .signals] s (execBlendTimerExpiry s) := by
  unfold execBlendTimerExpiry
  exact Answers.ite ⟨_, rfl, ((within_blend s _).mono (by decide)).trans (within_blendRun _ _)⟩ (Answers.same _ s)

theorem coolingTimerExpiry_answers (s : State) : Answers [.wear, .signals] s (execCoolingTimerExpiry s) := by
  unfold execCoolingTimerExpiry
  exact Answers.ite ⟨_, rfl, ((within_wear s _).mono (by decide)).trans (within_setWheels _ _)⟩ (Answers.same _ s)

theorem packHandOff_answers (power temp : Int) (dt : Nat) (s : State) :
    Answers [.wear, .signals] s (execPackHandOff power temp dt s) := by
  unfold execPackHandOff
  refine Answers.ite ?_ ?_
  · exact Answers.consumed (within_setBattery _ _) (by decide) (by decide)
  · exact Answers.consumed (Tidy.refl [.wear] _) (by decide) (by decide)

theorem startPointsHandOff_answers (points : Nat) (s : State) : Answers [.wear, .signals] s (execStartPointsHandOff points s) := by
  unfold execStartPointsHandOff
  refine Answers.ite ?_ ?_
  · exact Answers.consumed (within_setEngine _ _) (by decide) (by decide)
  · exact Answers.consumed (Tidy.refl [.wear] _) (by decide) (by decide)

theorem conditionLevelChange_answers (levels : List OwnerLevel) (s : State) :
    Answers [.warn, .ports, .signals] s (execConditionLevelChange levels s) := by
  unfold execConditionLevelChange
  refine Answers.ite ?_ ?_
  · exact Answers.consumed (within_takeLevels _ _) (by decide) (by decide)
  · exact Answers.consumed (Tidy.refl [.warn] _) (by decide) (by decide)

theorem clearWarnings_answers (codes : BitVec 24) (s : State) : Answers [.warn, .svc] s (execClearWarnings codes s) := by
  unfold execClearWarnings
  refine Answers.ite (Answers.next (within_serviceAnswer s _ _ _ _ _) (by decide)) ?_
  exact Answers.replied ((within_warn s _).trans (within_refreshWarnings _)) (by decide) (by decide)

theorem wearResetPad_answers (account : Nat) (copy : Bool) (s : State) :
    Answers [.wear, .signals, .store, .svc] s (execWearResetPad account copy s) := by
  unfold execWearResetPad
  split
  · exact Answers.replied (within_wheelsSaved s _) (by decide) (by decide)
  · exact Answers.next (within_serviceAnswer s _ _ _ _ _) (by decide)

/-! ### The Service port and the store -/

theorem serviceWrite_answers (addr : Nat) (bytes : List Byte) (s : State) : Answers [.svc] s (execServiceWrite addr bytes s) := by
  unfold execServiceWrite
  split
  · split <;> exact Answers.next (within_onSvc s _) (by decide)
  · exact Answers.next (within_onSvc s _) (by decide)

theorem serviceRead_answers (addr n : Nat) (s : State) : Answers [.svc] s (execServiceRead addr n s) := by
  unfold execServiceRead
  split
  · split <;> exact Answers.next (within_onSvc s _) (by decide)
  · exact Answers.next (within_onSvc s _) (by decide)

theorem serviceReadHoldTimeout_answers (s : State) : Answers [.svc] s (execServiceReadHoldTimeout s) := by
  unfold execServiceReadHoldTimeout
  split
  · exact Answers.same _ s
  · exact Answers.ite (Answers.next (within_onSvc s _) (by decide)) (Answers.same _ s)

theorem readItem_answers (n : Nat) (s : State) : Answers [.gs, .svc] s (execReadItem n s) := by
  unfold execReadItem
  split
  · exact Answers.next (within_serviceAnswer s _ _ _ _ _) (by decide)
  · exact ⟨_, rfl, ((within_serviceAnswer s _ _ _ _ _).mono (by decide)).trans
      (Tidy.ite ((within_onGs _ _).mono (by decide)) (Tidy.refl _ _))⟩

theorem activityStatusRead_answers (s : State) : Answers [.gs, .svc] s (execActivityStatusRead s) :=
  ⟨_, rfl, (within_serviceAnswer s _ _ _ _ _).after (within_onGs _ _) (by decide) (by decide)⟩

theorem writeItem_answers (n : Nat) (copy : Bool) (v : Int) (s : State) :
    Answers (footprint (.writeItem n copy v)) s (execWriteItem n copy v s) := by
  have sub : [Piece.svc] ⊆ footprint (.writeItem n copy v) := by simp [footprint]
  unfold execWriteItem
  split
  · next h => exact Answers.replied (within_writeItemOp s _ n copy v _ h) (List.Subset.refl _) sub
  · exact Answers.ite (Answers.next (within_serviceAnswer s _ _ _ _ _) sub) (Answers.next (within_serviceAnswer s _ _ _ _ _) sub)

theorem setQuietZone_answers (on : Bool) (s : State) : Answers [.quiet, .signals, .svc] s (execSetQuietZone on s) := by
  refine Answers.replied (l := [.quiet, .signals]) ?_ (by decide) (by decide)
  unfold State.changeQuiet
  refine Tidy.ite (Tidy.refl _ s) ?_
  exact ((within_quiet s on).after (within_raise _ _) (by decide) (by decide)).trans ((within_raise _ _).mono (by decide))

theorem commit_answers (s : State) : Answers [.store, .svc] s (execCommit s) := by
  have begun := Answers.replied (m := [.store, .svc]) (i := .commit) (k := 0x6A) (o := .done) (b := false) (content := [])
    (within_store s { s.store with phase := .writingSettings s.settings }) (by decide) (by decide)
  have busy : Answers [.store, .svc] s (.next (s.serviceAnswer .commit 0x6A (.refused .busy))) :=
    Answers.next (within_serviceAnswer s _ _ _ _ _) (by decide)
  unfold execCommit
  split
  · exact begun
  · exact begun
  · exact busy
  · exact busy

theorem wearSaveTimerExpiry_answers (s : State) : Answers [.store] s (execWearSaveTimerExpiry s) := by
  unfold execWearSaveTimerExpiry
  exact Answers.ite ⟨_, rfl, (within_store s _).trans (within_requestWearSave _)⟩ (Answers.same _ s)

theorem storeWriteCompletion_answers (ok : Bool) (s : State) :
    Answers [.store, .signals, .freeCount] s (execStoreWriteCompletion ok s) := by
  have ended : Tidy [.store, .signals, .freeCount] s (s.endWrite ok).beginPendingSave :=
    (within_endWrite s ok).trans ((within_beginPendingSave _).mono (by decide))
  unfold execStoreWriteCompletion
  split
  · exact Answers.same _ s
  · exact Answers.same _ s
  · exact ⟨_, rfl, ended⟩
  · exact ⟨_, rfl, ended⟩

/-! ### Every command -/

/-- Every command answers a next state, within the parts its row reaches, and keeps the queues lawful. -/
theorem exec_answers (c : Instr) (s : State) : Answers (footprint c) s (exec c s) := by
  cases c with
  | powerOnReset cause => exact ⟨_, rfl, within_powerOn s _ _⟩
  | settingsLoadEnd => exact settingsLoadEnd_answers s
  | keyOn => exact keyOn_answers s
  | keyOff => exact keyOff_answers s
  | spiExchange p e => exact spiExchange_answers p e s
  | statusQuery p => exact ⟨_, rfl, within_answer s _ _ _ _ _ _⟩
  | tractionReport r => exact tractionReport_answers r s
  | packReport r => exact packReport_answers r s
  | gensetReport r => exact gensetReport_answers r s
  | brakeDemand r => exact brakeDemand_answers r s
  | offerList sup es => exact offerList_answers sup es s
  | accept p n => exact accept_answers p n s
  | decline p n r => exact decline_answers p n r s
  | yieldPower p kw => exact yieldPower_answers p kw s
  | silenceTimerExpiry p => exact silenceTimerExpiry_answers p s
  | portStateView p now => exact portStateView_answers p now s
  | portStateContract p now => exact portStateContract_answers p now s
  | latePortUpNotice p => exact latePortUpNotice_answers p s
  | portStateSequencer now => exact portStateSequencer_answers now s
  | portStateBlend p now => exact portStateBlend_answers p now s
  | arrivalNotice kind ch => exact arrivalNotice_answers kind ch s
  | acceptanceWindowExpiry => exact acceptanceWindowExpiry_answers s
  | roundRestExpiry => exact roundRestExpiry_answers s
  | peakExpiry => exact peakExpiry_answers s
  | gensetEntersOnline => exact trigger_answers _ s
  | gensetLeavesOnline => exact gensetLeavesOnline_answers s
  | derateChange => exact derateChange_answers s
  | penaltyChange => exact trigger_answers _ s
  | quietZoneChange => exact trigger_answers _ s
  | auxChange => exact trigger_answers _ s
  | gensetWantedChange w cause => exact gensetWantedChange_answers w cause s
  | gensetReportSignal cond coolant fault => exact Answers.consumed (within_takeGensetReport _ _ _ _) (List.Subset.refl _) (by simp [footprint, gensetPieces])
  | activitySignal src => exact Answers.consumed (within_takeActivity _ _) (by simp [footprint]) (by simp [footprint])
  | criticalMarkSignal => exact Answers.consumed (within_evaluateStart _) (by decide) (by decide)
  | commitmentHanded kw index => exact commitmentHanded_answers kw index s
  | quietZoneSequencer on => exact quietZoneSequencer_answers on s
  | crankTimerExpiry => exact crankTimerExpiry_answers s
  | restTimerExpiry => exact restTimerExpiry_answers s
  | warmTimerExpiry => exact warmTimerExpiry_answers s
  | idleOffExpiry => exact idleOffExpiry_answers s
  | cooldownTimerExpiry => exact cooldownTimerExpiry_answers s
  | modeDerivation => exact Answers.consumed (within_deriveMode _) (by decide) (by decide)
  | blendTimerExpiry => exact blendTimerExpiry_answers s
  | blendImmediateRun => exact Answers.consumed (within_blendRun _ _) (by decide) (by decide)
  | fadeCopyUpdate level => exact Answers.consumed (within_blend _ _) (by simp [footprint]) (by simp [footprint])
  | frictionHandOff powers ms => exact Answers.consumed (within_setWheels _ _) (by simp [footprint]) (by simp [footprint])
  | coolingTimerExpiry => exact coolingTimerExpiry_answers s
  | packHandOff p t dt => exact packHandOff_answers p t dt s
  | startPointsHandOff points => exact startPointsHandOff_answers points s
  | conditionLevelChange levels => exact conditionLevelChange_answers levels s
  | serviceWrite addr bytes => exact serviceWrite_answers addr bytes s
  | serviceRead addr n => exact serviceRead_answers addr n s
  | serviceReadHoldTimeout => exact serviceReadHoldTimeout_answers s
  | serviceStatusQuery => exact ⟨_, rfl, within_serviceAnswer s _ _ _ _ _⟩
  | readItem n => exact readItem_answers n s
  | activityStatusRead => exact activityStatusRead_answers s
  | writeItem n copy v => exact writeItem_answers n copy v s
  | writeModeVector m v => exact Answers.replied (within_writeModeVectorOp s m v) (by simp [footprint]) (by simp [footprint])
  | writeRatedDraw line v => exact Answers.replied (within_writeRatedDrawOp s line v) (by simp [footprint]) (by simp [footprint])
  | writePolarity line v => exact Answers.replied (within_writePolarityOp s line v) (by simp [footprint]) (by simp [footprint])
  | writePadAccount w copy v => exact Answers.replied (within_wheelsSaved s _) (by simp [footprint]) (by simp [footprint])
  | writePadLife w copy v => exact Answers.replied (within_wheelsSaved s _) (by simp [footprint]) (by simp [footprint])
  | writeHeatCapacity w copy v =>
    exact Answers.replied (within_writeHeatCapacityOp s w copy v) (by simp [footprint]) (by simp [footprint])
  | writeBatteryAccount v => exact Answers.replied (within_batterySaved s _) (by simp [footprint]) (by simp [footprint])
  | writeBatteryLife v => exact Answers.replied (within_batterySaved s _) (by simp [footprint]) (by simp [footprint])
  | writeEngineAccount v => exact Answers.replied (within_engineSaved s _) (by simp [footprint]) (by simp [footprint])
  | writeEngineLife v => exact Answers.replied (within_engineSaved s _) (by simp [footprint]) (by simp [footprint])
  | writeFadeThreshold v => exact Answers.replied (within_writeFadeThresholdOp s v) (by simp [footprint]) (by simp [footprint])
  | writeWarnGrade kind v => exact Answers.replied (within_writeWarnGradeOp s kind v) (by simp [footprint]) (by simp [footprint])
  | writeChargeMark mark v =>
    exact Answers.replied (within_writeChargeMarkOp s mark v) (by simp [footprint, contractPieces]) (by simp [footprint])
  | writeCriticalMark v =>
    exact Answers.replied (within_writeCriticalMarkOp s v) (by simp [footprint, gensetPieces]) (by simp [footprint])
  | writeDeliveryMask target v => exact Answers.replied (within_writeMaskOp s target v) (by simp [footprint]) (by simp [footprint])
  | clearWarnings codes => exact clearWarnings_answers codes s
  | wearResetPad account copy => exact wearResetPad_answers account copy s
  | wearResetBattery => exact Answers.replied (within_batterySaved s _) (by decide) (by decide)
  | wearResetEngine => exact Answers.replied (within_engineSaved s _) (by decide) (by decide)
  | clearLockout => exact clearLockout_answers s
  | activity => exact activity_answers s
  | setQuietZone on => exact setQuietZone_answers on s
  | portReset n => exact portReset_answers n s
  | tallyClear n => exact tallyClear_answers n s
  | drivelineReset => exact drivelineReset_answers s
  | commit => exact commit_answers s
  | wearSaveTimerExpiry => exact wearSaveTimerExpiry_answers s
  | storeWriteCompletion ok => exact storeWriteCompletion_answers ok s

/-- The state a command answers lies within the parts of its row. -/
theorem exec_tidy {c : Instr} {s t : State} (h : exec c s = .next t) : Tidy (footprint c) s t := by
  obtain ⟨u, hu, tidy⟩ := exec_answers c s
  rw [h] at hu
  cases hu
  exact tidy

/-- No command's row reaches the queue of commands. -/
theorem pending_not_mem_footprint (c : Instr) : Piece.pending ∉ footprint c := by
  cases c <;> simp [footprint, allPieces, contractPieces, gensetPieces, keyPieces]

/-- Settles O3: the frame of each command is that of the operations it is made of. -/
theorem everyCommandKeepsToItsUnits : Obligations.EveryCommandKeepsToItsUnits := by
  intro c s
  obtain ⟨t, ht, tidy⟩ := exec_answers c s
  exact ⟨t, ht, tidy.1, tidy.1 .pending (pending_not_mem_footprint c)⟩

/-- Settles O1. -/
theorem stepRunsTheCommandAtTheFront : Obligations.StepRunsTheCommandAtTheFront := by
  intro c rest s waiting
  simp only [step, waiting]

end Sys2Proof.Machine

/-! ## What every step keeps: an invariant of the commands is an invariant of the steps -/

namespace Sys2Proof.Machine

/-- If the outcome is a next state, the property holds of it. -/
def Ends (P : State → Prop) (o : Host.Outcome State Fault Refusal) : Prop := ∀ t, o = .next t → P t

theorem Ends.next {P : State → Prop} {t : State} (h : P t) : Ends P (.next t) := by
  rintro _ ⟨⟩
  exact h

theorem Ends.ite {P : State → Prop} {b : Prop} [Decidable b] {o p : Host.Outcome State Fault Refusal}
    (h : b → Ends P o) (g : ¬ b → Ends P p) : Ends P (if b then o else p) := by
  split
  · next hb => exact h hb
  · next hb => exact g hb

/-- The property is kept by every command. -/
def ExecKeeps (P : State → Prop) : Prop := ∀ c s, P s → Ends P (exec c s)

/-- A WRITE_ITEM that is taken stores a plain setting, or is the command of its item's own row (R162). -/
theorem writeItemOp_cases {s t : State} {n : Nat} {copy b : Bool} {v : Int} (h : s.writeItemOp n copy v = some (t, b)) :
    (∃ x, writeSetting s.settings n v = some (x, b) ∧ t = { s with settings := x }) ∨
      ((∀ m d w, writeCommand n copy v ≠ .writeItem m d w) ∧
        exec (writeCommand n copy v) s = .next (t.writeDone (writeCommand n copy v) b)) := by
  have plain : (writeSetting s.settings n v).map (fun (x, d) => (({ s with settings := x } : State), d)) = some (t, b) →
      ∃ x, writeSetting s.settings n v = some (x, b) ∧ t = { s with settings := x } := by
    intro e
    obtain ⟨⟨x, d⟩, hx, e⟩ := Option.map_eq_some_iff.1 e
    obtain ⟨rfl, rfl⟩ := Prod.mk.inj e
    exact ⟨x, hx, rfl⟩
  unfold State.writeItemOp at h
  generalize writeCommand n copy v = c at h
  cases c with
  | writeChargeMark | writeCriticalMark | writeModeVector | writeRatedDraw | writePolarity | writeFadeThreshold
  | writePadAccount | writePadLife | writeHeatCapacity | writeBatteryAccount | writeBatteryLife | writeEngineAccount
  | writeEngineLife | writeWarnGrade | writeDeliveryMask =>
    cases h
    exact .inr ⟨(fun _ _ _ e => nomatch e), rfl⟩
  | _ => exact .inl (plain h)

/-- A property that the reply to the service controller does not touch is kept by every command, if it is kept by a plain setting's
write and by every command but WRITE_ITEM. -/
theorem execKeeps_of_rows {P : State → Prop} (svc : ∀ s v, P { s with svc := v } ↔ P s)
    (plain : ∀ s x n v b, P s → writeSetting s.settings n v = some (x, b) → P { s with settings := x })
    (rows : ∀ c s, (∀ n b v, c ≠ .writeItem n b v) → P s → Ends P (exec c s)) : ExecKeeps P := by
  intro c s h
  have answered : ∀ t : State, P t → ∀ i k o b l, P (t.serviceAnswer i k o b l) := fun t ht _ _ _ _ _ => (svc t _).2 ht
  by_cases e : ∃ n b v, c = .writeItem n b v
  · obtain ⟨n, copy, v, rfl⟩ := e
    show Ends P (execWriteItem n copy v s)
    unfold execWriteItem
    split
    · next t b taken =>
      rcases writeItemOp_cases taken with ⟨x, hx, rfl⟩ | ⟨own, ran⟩
      · exact Ends.next (answered _ (plain s x n v b h hx) _ _ _ _ _)
      · exact Ends.next (answered _ ((svc _ _).1 (rows _ s own h _ ran)) _ _ _ _ _)
    · exact Ends.ite (fun _ => Ends.next (answered s h _ _ _ _ _)) fun _ => Ends.next (answered s h _ _ _ _ _)
  · exact rows c s (fun n b v hc => e ⟨n, b, v, hc⟩) h

/-- A property that the queue of commands does not touch, kept by every command and by a millisecond, is kept by every step. -/
theorem step_keeps {P : State → Prop} (queue : ∀ s l, P s → P { s with pending := l }) (tick : ∀ s, P s → P s.tick)
    (keeps : ExecKeeps P) {s t : State} (h : step s = .next t) (hs : P s) : P t := by
  unfold step at h
  split at h
  · unfold State.idle at h
    split at h
    · cases h; exact tick s hs
    · exact keeps _ s hs t h
  · exact keeps _ _ (queue s _ hs) t h

/-! ### The Contract Unit -/

theorem evaluateNeed_sound {s : State} (h : s.cu.sound) : s.evaluateNeed.cu.sound := by
  unfold State.evaluateNeed
  split
  · exact h
  · rw [State.raiseIf_cu]
    exact ⟨ContractUnit.lawful_same h.lawful rfl rfl rfl, h.rests⟩

theorem noteArrival_sound {s : State} (h : s.cu.sound) (kind : ArrivalKind) : (s.noteArrival kind).cu.sound := by
  cases kind with
  | traction => exact ⟨ContractUnit.lawful_same h.lawful rfl rfl rfl, h.rests⟩
  | pack => exact ⟨ContractUnit.lawful_same h.lawful rfl rfl rfl, h.rests⟩
  | storageList => exact h
  | gensetList => exact h

theorem withdrawIf_sound {s : State} (h : s.cu.sound) {b : Prop} [Decidable b] : (if b then s.withdraw else s).cu.sound := by
  split
  · exact withdraw_sound h
  · exact h

theorem takeList_sound {s : State} (h : s.cu.sound) (sup : Supplier) : (s.takeList sup).cu.sound := by
  cases sup with
  | pack => exact refreshPeak_sound (reduceIf_sound (withdraw_sound h) _ _ _)
  | genset => exact reduceIf_sound (withdrawIf_sound h) _ _ _

theorem takeChanges_sound {s : State} (h : s.cu.sound) (kind : ArrivalKind) (ch : ChangeSet) (b : Bool) :
    (s.takeChanges kind ch b).cu.sound := by
  have revised : (if ch.acceptance = true then s.revise else s).cu.sound := by
    split
    · exact revise_sound h
    · exact h
  refine triggerIf_sound ?_ _
  split
  · cases kind with
    | traction => exact revised
    | pack => exact revised
    | storageList => exact takeList_sound revised .pack
    | gensetList => exact takeList_sound revised .genset
  · exact revised

theorem takeYield_sound {s : State} (h : s.cu.sound) (sup : Supplier) (kw : Nat) : (s.takeYield sup kw).cu.sound := by
  unfold State.takeYield
  split
  · exact h
  · refine trigger_sound ?_
    cases sup with
    | pack => exact reduceIf_sound (withdraw_sound h) _ _ _
    | genset => exact reduceIf_sound (withdraw_sound h) _ _ _

theorem takeLeaving_sound {s : State} (h : s.cu.sound) : s.takeLeaving.cu.sound :=
  reduceIf_sound (withdrawIf_sound h) _ _ _

theorem takeDerate_sound {s : State} (h : s.cu.sound) : s.takeDerate.cu.sound :=
  reduceIf_sound (withdrawIf_sound (revise_sound h)) _ _ _

theorem declineLost_sound {s : State} (h : s.cu.sound) : s.declineLost.cu.sound := by
  unfold State.declineLost
  split
  · exact h
  · split
    · next hb =>
      have o : s.cu.gate = .opened := isOpen_iff.1 (Bool.and_eq_true_iff.1 hb).1
      obtain ⟨d, open'⟩ := discard_sound h.lawful o _ _ _
      exact continueRound_sound d.lawful open' _
    · exact h

theorem contractKeyOff_sound {s : State} (h : s.cu.sound) : s.contractKeyOff.cu.sound := by
  unfold State.contractKeyOff
  split
  · exact drop_sound h.lawful _
  · next e =>
    rw [State.levelsFrom_cu, State.raise_cu]
    exact ⟨ContractUnit.lawful_same h.lawful rfl rfl rfl, fun _ => h.rests (by simp [e])⟩
  · exact h

theorem reset_sound : State.reset.cu.sound :=
  ⟨⟨(fun _ e => nomatch e), (fun _ e => nomatch e), (fun _ _ e => nomatch e), Nat.zero_le _⟩,
    fun _ => ⟨rfl, rfl, rfl, rfl, rfl, rfl, rfl, rfl⟩⟩

theorem tick_sound {s : State} (h : s.cu.sound) : s.tick.cu.sound := by
  refine ⟨ContractUnit.lawful_same h.lawful rfl rfl rfl, fun g => ?_⟩
  obtain ⟨active, proposal, round, settled, window, rest, peak, wanted⟩ := h.rests g
  exact ⟨active, proposal, round, settled, congrArg Timer.tick window, congrArg Timer.tick rest, congrArg Timer.tick peak, wanted⟩

/-- The proposal with one more party's mark. -/
theorem accepted_sound {s : State} (h : s.cu.sound) {p : Proposal} (e : s.cu.proposal = some p) (a : PartySet) :
    ({ s.cu with proposal := some { p with accepted := a } } : ContractUnit).sound := by
  have o : s.cu.gate = .opened := by
    by_contra g
    obtain ⟨-, none, -⟩ := h.rests g
    rw [none] at e
    cases e
  refine ContractUnit.sound_of_open ⟨h.lawful.active, ?_, ?_, h.lawful.counter⟩ o
  · rintro q ⟨⟩
    exact h.lawful.proposal p e
  · rintro x q ea ⟨⟩
    exact h.lawful.differ x p ea e

theorem accept_ends {s : State} (h : s.cu.sound) (party : Party) (n : Nat) :
    Ends (fun t => t.cu.sound) (execAccept party n s) := by
  unfold execAccept
  dsimp only
  refine Ends.ite (fun _ => Ends.next h) fun isOpen => ?_
  have o : s.cu.gate = .opened := isOpen_iff.1 (by simpa using isOpen)
  split
  · exact Ends.next h
  · next p e =>
    have marked := accepted_sound h e (p.accepted.add party)
    obtain ⟨terms, number⟩ := h.lawful.proposal p e
    refine Ends.ite (fun _ => Ends.next h) fun _ => Ends.ite (fun _ => Ends.next marked) fun _ =>
      Ends.ite (fun _ => Ends.next ?_) fun _ => Ends.next marked
    exact activate_sound (s := (s.onCu fun c => { c with proposal := some { p with accepted := p.accepted.add party } }).answer
      party.port (.accept party n) 0x20 .done false) (p := { p with accepted := p.accepted.add party }) marked o terms number

theorem decline_ends {s : State} (h : s.cu.sound) (party : Party) (n reason : Nat) :
    Ends (fun t => t.cu.sound) (execDecline party n reason s) := by
  unfold execDecline
  refine Ends.ite (fun _ => Ends.next h) fun isOpen => ?_
  have o : s.cu.gate = .opened := isOpen_iff.1 (by simpa using isOpen)
  split
  · exact Ends.next h
  · refine Ends.ite (fun _ => Ends.next h) fun _ => Ends.next ?_
    obtain ⟨d, open'⟩ := discard_sound (s := s.answer _ _ _ _ _ _) h.lawful o _ (PartySet.only party) (declineReason reason)
    exact continueRound_sound d.lawful open' _

theorem yieldPower_ends {s : State} (h : s.cu.sound) (p : Port) (kw : Nat) :
    Ends (fun t => t.cu.sound) (execYieldPower p kw s) := by
  unfold execYieldPower
  dsimp only
  split
  · exact Ends.next h
  · exact Ends.ite (fun _ => Ends.next (takeYield_sound (s := s.answer _ _ _ _ _ _) h _ _)) fun _ => Ends.next h

theorem portStateContract_ends {s : State} (h : s.cu.sound) (p : Port) (now : PortState) :
    Ends (fun t => t.cu.sound) (execPortStateContract p now s) := by
  have tested : ∀ (b : Prop) [Decidable b] r, (if b then (s.consume (.portStateContract p now)).drop r
      else (s.consume (.portStateContract p now)).testGate).cu.sound := by
    intro b _ r
    split
    · exact drop_sound (s := s.consume _) h.lawful r
    · exact testGate_sound (s := s.consume _) h
  unfold execPortStateContract
  cases p with
  | traction => exact Ends.next (tested _ _)
  | pack => exact Ends.next (tested _ _)
  | genset =>
    refine Ends.next ?_
    split
    · exact declineLost_sound (s := s.consume _) h
    · exact h
  | brake => exact Ends.next h

theorem arrivalNotice_ends {s : State} (h : s.cu.sound) (kind : ArrivalKind) (ch : ChangeSet) :
    Ends (fun t => t.cu.sound) (execArrivalNotice kind ch s) := by
  have noted := noteArrival_sound (s := s.consume (.arrivalNotice kind ch)) h kind
  have needed : (if ch.chargeMark = true then ((s.consume (.arrivalNotice kind ch)).noteArrival kind).evaluateNeed
      else (s.consume (.arrivalNotice kind ch)).noteArrival kind).cu.sound := by
    split
    · exact evaluateNeed_sound noted
    · exact noted
  unfold execArrivalNotice
  exact Ends.ite (fun _ => Ends.next (takeChanges_sound needed _ _ _)) fun _ => Ends.next (testGate_sound needed)

theorem acceptanceWindowExpiry_ends {s : State} (h : s.cu.sound) :
    Ends (fun t => t.cu.sound) (execAcceptanceWindowExpiry s) := by
  unfold execAcceptanceWindowExpiry
  refine Ends.ite (fun runs => ?_) fun _ => Ends.next h
  have o : s.cu.gate = .opened := by
    by_contra g
    obtain ⟨-, -, -, -, window, -⟩ := h.rests g
    simp [window, Timer.isRunning] at runs
  split
  · exact Ends.next (ContractUnit.sound_of_open (ContractUnit.lawful_same h.lawful rfl rfl rfl) o)
  · obtain ⟨d, open'⟩ := discard_sound h.lawful o _ _ _
    exact Ends.next (continueRound_sound d.lawful open' _)

theorem roundRestExpiry_ends {s : State} (h : s.cu.sound) : Ends (fun t => t.cu.sound) (execRoundRestExpiry s) := by
  unfold execRoundRestExpiry
  refine Ends.ite (fun _ => Ends.next (trigger_sound ⟨ContractUnit.lawful_same h.lawful rfl rfl rfl, fun g => ?_⟩)) fun _ => Ends.next h
  obtain ⟨active, proposal, -, settled, window, -, peak, wanted⟩ := h.rests g
  exact ⟨active, proposal, rfl, settled, window, rfl, peak, wanted⟩

theorem peakExpiry_ends {s : State} (h : s.cu.sound) : Ends (fun t => t.cu.sound) (execPeakExpiry s) := by
  unfold execPeakExpiry
  refine Ends.ite (fun _ => Ends.next (trigger_sound (reduceAtPeak_sound (withdraw_sound ?_)))) fun _ => Ends.next h
  have stopped : (s.onCu fun c => { c with peak := .stopped }).cu.sound := by
    refine ⟨ContractUnit.lawful_same h.lawful rfl rfl rfl, fun g => ?_⟩
    obtain ⟨active, proposal, round, settled, window, rest, -, wanted⟩ := h.rests g
    exact ⟨active, proposal, round, settled, window, rest, rfl, wanted⟩
  have cu : ∀ t : State, t.markExpired.cu = t.cu := fun t => (within_markExpired t).1 .cu (by decide)
  rw [cu]
  exact stopped

theorem writeChargeMarkOp_sound {s : State} (h : s.cu.sound) (mark : ChargeMark) (v : Int) :
    (s.writeChargeMarkOp mark v).cu.sound := by
  unfold State.writeChargeMarkOp
  dsimp only
  split
  · exact h
  · refine triggerIf_sound (evaluateNeed_sound ?_) _
    exact h

theorem settingsLoadEnd_ends {s : State} (h : s.cu.sound) : Ends (fun t => t.cu.sound) (execSettingsLoadEnd s) := by
  have evaluated : ∀ t : State, t.firstEvaluation.cu = t.cu := fun t => (within_firstEvaluation t).1 .cu (by decide)
  have started : ∀ t : State, t.evaluateStart.cu = t.cu := fun t => (within_evaluateStart t).1 .cu (by decide)
  have before : ∀ i, (s.loadImages.startUnits.raise i).firstEvaluation.cu.sound := fun i => by rw [evaluated]; exact h
  unfold execSettingsLoadEnd
  refine Ends.ite (fun _ => Ends.next h) fun _ => Ends.next ?_
  split
  · unfold State.keyTaken
    rw [started]
    exact testGate_sound (before _)
  · exact before _

theorem keyOn_ends {s : State} (h : s.cu.sound) : Ends (fun t => t.cu.sound) (execKeyOn s) := by
  have started : ∀ t : State, t.evaluateStart.cu = t.cu := fun t => (within_evaluateStart t).1 .cu (by decide)
  unfold execKeyOn
  refine Ends.ite (fun _ => Ends.next h) fun _ => Ends.next ?_
  split
  · unfold State.keyTaken
    rw [started]
    exact testGate_sound (s := { s with key := true, store := _ }) h
  · exact h

theorem keyOff_ends {s : State} (h : s.cu.sound) : Ends (fun t => t.cu.sound) (execKeyOff s) := by
  have saved : ∀ t : State, t.requestWearSave.cu = t.cu := fun t => (within_requestWearSave t).1 .cu (by decide)
  have stopped : ∀ t : State, t.sequencerKeyOff.cu = t.cu := fun t => (within_sequencerKeyOff t).1 .cu (by decide)
  unfold execKeyOff
  refine Ends.ite (fun _ => Ends.next ?_) fun _ => Ends.next h
  split
  · unfold State.keyLost
    rw [saved]
    simp only [State.raise_cu, stopped]
    exact contractKeyOff_sound (s := { s with key := false }) h
  · exact h

theorem drivelineReset_ends {s : State} (h : s.cu.sound) : Ends (fun t => t.cu.sound) (execDrivelineReset s) := by
  have emptied : s.emptyPorts.cu = s.cu := (within_emptyPorts s).1 .cu (by decide)
  have reset : ∀ t : State, t.sequencerReset.cu = t.cu := fun t => (within_sequencerReset t).1 .cu (by decide)
  have derived : ∀ t : State, t.deriveMode.cu = t.cu := fun t => (within_deriveMode t).1 .cu (by decide)
  refine Ends.next (testGate_sound ?_)
  rw [derived]
  unfold State.drivelineReset
  rw [reset]
  exact drop_sound (s := s.emptyPorts) (emptied ▸ h.lawful) _

/-- Every command keeps the Contract Unit's record sound. -/
theorem execKeeps_sound : ExecKeeps fun s => s.cu.sound := by
  refine execKeeps_of_rows (fun _ _ => Iff.rfl) (fun _ _ _ _ _ h _ => h) fun c s own h => ?_
  by_cases reaches : Piece.cu ∈ footprint c
  · cases c
    case powerOnReset => exact Ends.next reset_sound
    case settingsLoadEnd => exact settingsLoadEnd_ends h
    case keyOn => exact keyOn_ends h
    case keyOff => exact keyOff_ends h
    case accept p n => exact accept_ends h p n
    case decline p n r => exact decline_ends h p n r
    case yieldPower p kw => exact yieldPower_ends h p kw
    case portStateContract p now => exact portStateContract_ends h p now
    case arrivalNotice kind ch => exact arrivalNotice_ends h kind ch
    case acceptanceWindowExpiry => exact acceptanceWindowExpiry_ends h
    case roundRestExpiry => exact roundRestExpiry_ends h
    case peakExpiry => exact peakExpiry_ends h
    case gensetEntersOnline => exact Ends.next (trigger_sound (s := s.consume _) h)
    case gensetLeavesOnline =>
      exact Ends.ite (fun _ => Ends.next (trigger_sound (takeLeaving_sound (s := s.consume _) h))) fun _ => Ends.next h
    case derateChange =>
      exact Ends.ite (fun _ => Ends.next (trigger_sound (takeDerate_sound (s := s.consume _) h))) fun _ => Ends.next h
    case penaltyChange => exact Ends.next (trigger_sound (s := s.consume _) h)
    case quietZoneChange => exact Ends.next (trigger_sound (s := s.consume _) h)
    case auxChange => exact Ends.next (trigger_sound (s := s.consume _) h)
    case writeItem n b v => exact absurd rfl (own n b v)
    case writeChargeMark mark v => exact Ends.next (writeChargeMarkOp_sound h mark v)
    case drivelineReset => exact drivelineReset_ends h
    all_goals exact absurd reaches (by simp [footprint, gensetPieces])
  · intro t ran
    have same : t.cu = s.cu := (exec_tidy ran).1 .cu reaches
    rw [same]
    exact h

/-- Settles O59: the record is sound after every command, and a millisecond moves its timers alone. -/
theorem everyStepKeepsTheContractsLawful : Obligations.EveryStepKeepsTheContractsLawful := by
  intro s t rests lawful stepped
  have sound := step_keeps (P := fun s => s.cu.sound) (fun _ _ h => h) (fun _ => tick_sound) execKeeps_sound stepped ⟨lawful, rests⟩
  exact ⟨sound.rests, sound.lawful⟩

end Sys2Proof.Machine

/-! ## What every step keeps: the laws of the other units -/

namespace Sys2Proof.Machine

/-- A command within these parts keeps a property that only other parts bear on. -/
theorem ends_of_frame {P : State → Prop} {c : Instr} {s : State} (frame : ∀ t, Within (footprint c) s t → P t) : Ends P (exec c s) :=
  fun t ran => frame t (exec_tidy ran).1

/-! ### The Genset Sequencer -/

theorem Sequencer.reset_lawful : Sequencer.reset.lawful :=
  ⟨Nat.zero_le _, (fun g => nomatch g), (fun g => nomatch g), (fun g => nomatch g), (fun g => nomatch g), fun g => nomatch g⟩

theorem commitmentHanded_ends {s : State} (h : s.gs.lawful) (kw : Nat) (index : Option Nat) :
    Ends (fun t => t.gs.lawful) (execCommitmentHanded kw index s) := by
  unfold execCommitmentHanded
  refine Ends.ite (fun _ => Ends.next h) fun _ => Ends.next ?_
  have same : ∀ t : State, (if t.gs.state = .online then t.operate else t).gs = t.gs := fun t => by split <;> rfl
  refine applyIdleRule_lawful ?_ ?_ <;> rw [same]
  · exact ⟨h.attempts, h.crank, h.rest, h.warm, h.cooldown, fun g => nomatch g⟩
  · exact fun g => (h.idleOff g).1

/-- Start need is evaluated in STOPPED and COOLDOWN alone (R66, R76). -/
theorem State.evaluateStart_of_online {s : State} (h : s.gs.state = .online) : s.evaluateStart = s := by
  simp only [State.evaluateStart, h]

theorem gensetWantedChange_ends {s : State} (h : s.gs.lawful) (w : Bool) (cause : WantCause) :
    Ends (fun t => t.gs.lawful) (execGensetWantedChange w cause s) := by
  unfold execGensetWantedChange
  refine Ends.next ?_
  by_cases online : s.gs.state = .online
  · rw [State.evaluateStart_of_online (by exact online)]
    exact applyIdleRule_lawful ⟨h.attempts, h.crank, h.rest, h.warm, h.cooldown, fun g => nomatch g⟩ fun _ => online
  · refine applyIdleRule_lawful' (evaluateStart_lawful ?_)
    exact ⟨h.attempts, h.crank, h.rest, h.warm, h.cooldown, fun g => absurd (h.idleOff g).1 online⟩

theorem gensetPortGone_lawful {s : State} (h : s.gs.lawful) : s.gensetPortGone.gs.lawful := lockOut_lawful h.attempts _ _

theorem portStateSequencer_ends {s : State} (h : s.gs.lawful) (now : PortState) :
    Ends (fun t => t.gs.lawful) (execPortStateSequencer now s) := by
  unfold execPortStateSequencer
  cases now with
  | up => exact Ends.next (evaluateStart_lawful (s := s.consume _) h)
  | lost => exact Ends.ite (fun _ => Ends.next h) fun _ => Ends.next (gensetPortGone_lawful (s := s.consume _) h)
  | down => exact Ends.ite (fun _ => Ends.next h) fun _ => Ends.next (gensetPortGone_lawful (s := s.consume _) h)

theorem quietZoneSequencer_ends {s : State} (h : s.gs.lawful) (on : Bool) :
    Ends (fun t => t.gs.lawful) (execQuietZoneSequencer on s) := by
  refine Ends.next (evaluateStart_lawful ?_)
  split
  · exact zoneSet_lawful (s := s.consume _) h
  · exact h

/-- The state a running timer stands in, and so the timers that stand still. -/
theorem crankTimerExpiry_ends {s : State} (h : s.gs.lawful) : Ends (fun t => t.gs.lawful) (execCrankTimerExpiry s) := by
  obtain ⟨a, k, r, w, d, i⟩ := h
  unfold execCrankTimerExpiry
  refine Ends.ite (fun runs => ?_) fun _ => Ends.next ⟨a, k, r, w, d, i⟩
  simp only [k runs, reduceCtorEq, imp_false, Bool.not_eq_true, false_and] at r w d i
  refine Ends.ite (fun _ => Ends.next ?_) fun _ => Ends.next (lockOut_lawful a _ _)
  exact ⟨a, (fun g => nomatch g), fun _ => rfl, by simp [w], by simp [d], by simp [i]⟩

theorem restTimerExpiry_ends {s : State} (h : s.gs.lawful) : Ends (fun t => t.gs.lawful) (execRestTimerExpiry s) := by
  obtain ⟨a, k, r, w, d, i⟩ := h
  unfold execRestTimerExpiry
  refine Ends.ite (fun runs => Ends.next ?_) fun _ => Ends.next ⟨a, k, r, w, d, i⟩
  simp only [r runs, reduceCtorEq, imp_false, Bool.not_eq_true, false_and] at k w d i
  exact enterStopped_lawful a k rfl w d i

theorem warmTimerExpiry_ends {s : State} (h : s.gs.lawful) : Ends (fun t => t.gs.lawful) (execWarmTimerExpiry s) := by
  obtain ⟨a, k, r, w, d, i⟩ := h
  unfold execWarmTimerExpiry
  refine Ends.ite (fun runs => Ends.next ?_) fun _ => Ends.next ⟨a, k, r, w, d, i⟩
  simp only [w runs, reduceCtorEq, imp_false, Bool.not_eq_true, false_and] at k r i
  exact enterOnline_lawful k r (by simp [i])

theorem idleOffExpiry_ends {s : State} (h : s.gs.lawful) : Ends (fun t => t.gs.lawful) (execIdleOffExpiry s) := by
  unfold execIdleOffExpiry
  split
  · next e =>
    have online : s.gs.state = .online := (h.idleOff (by rw [e]; rfl)).1
    exact Ends.next (evaluateStart_lawful (idleOffEnds_lawful h online _))
  · exact Ends.next h
  · exact Ends.next h

theorem cooldownTimerExpiry_ends {s : State} (h : s.gs.lawful) : Ends (fun t => t.gs.lawful) (execCooldownTimerExpiry s) := by
  obtain ⟨a, k, r, w, d, i⟩ := h
  unfold execCooldownTimerExpiry
  refine Ends.ite (fun runs => Ends.next ?_) fun _ => Ends.next ⟨a, k, r, w, d, i⟩
  simp only [d runs, reduceCtorEq, imp_false, Bool.not_eq_true, false_and] at k r w i
  exact enterStopped_lawful a k r w rfl i

theorem clearActivity_lawful {s : State} (h : s.gs.lawful) : s.clearActivity.gs.lawful :=
  ⟨h.attempts, h.crank, h.rest, h.warm, h.cooldown, h.idleOff⟩

theorem readItem_ends {s : State} (h : s.gs.lawful) (n : Nat) : Ends (fun t => t.gs.lawful) (execReadItem n s) := by
  unfold execReadItem
  split
  · exact Ends.next h
  · refine Ends.next ?_
    split
    · exact clearActivity_lawful (s := s.serviceAnswer _ _ _ _ _) h
    · exact h

theorem writeCriticalMarkOp_lawful {s : State} (h : s.gs.lawful) (v : Int) : (s.writeCriticalMarkOp v).gs.lawful := by
  unfold State.writeCriticalMarkOp
  dsimp only
  split
  · exact h
  · refine evaluateStart_lawful ?_
    exact h

theorem clearLockout_ends {s : State} (h : s.gs.lawful) : Ends (fun t => t.gs.lawful) (execClearLockout s) := by
  refine Ends.next ?_
  rw [State.serviceDone_gs]
  split
  · next e =>
    refine leaveLockout_lawful (s := s.onGs fun g => { g with attempts := 0 }) ?_ e
    exact ⟨Nat.zero_le _, h.crank, h.rest, h.warm, h.cooldown, h.idleOff⟩
  · exact h

theorem keyTaken_lawful {s : State} (h : s.gs.lawful) : s.keyTaken.gs.lawful := by
  have tested : ∀ t : State, t.testGate.gs = t.gs := fun t => (within_testGate t).1 .gs (by decide)
  refine evaluateStart_lawful ?_
  rw [tested]
  exact h

theorem keyLost_lawful {s : State} (h : s.gs.lawful) : s.keyLost.gs.lawful := by
  have off : s.contractKeyOff.gs = s.gs := (within_contractKeyOff s).1 .gs (by decide)
  have saved : ∀ t : State, t.requestWearSave.gs = t.gs := fun t => (within_requestWearSave t).1 .gs (by decide)
  unfold State.keyLost
  rw [saved]
  exact sequencerKeyOff_lawful (s := s.contractKeyOff) (off ▸ h)

theorem settingsLoadEnd_gs {s : State} (h : s.gs.lawful) : Ends (fun t => t.gs.lawful) (execSettingsLoadEnd s) := by
  have evaluated : ∀ t : State, t.firstEvaluation.gs = t.gs := fun t => (within_firstEvaluation t).1 .gs (by decide)
  unfold execSettingsLoadEnd
  refine Ends.ite (fun _ => Ends.next h) fun _ => Ends.next ?_
  split
  · exact keyTaken_lawful (by rw [evaluated]; exact h)
  · rw [evaluated]; exact h

theorem drivelineReset_gs {s : State} (h : s.gs.lawful) : Ends (fun t => t.gs.lawful) (execDrivelineReset s) := by
  have tested : ∀ t : State, t.testGate.gs = t.gs := fun t => (within_testGate t).1 .gs (by decide)
  have derived : ∀ t : State, t.deriveMode.gs = t.gs := fun t => (within_deriveMode t).1 .gs (by decide)
  have dropped : (s.emptyPorts.drop .drivelineReset).gs = s.gs :=
    ((within_drop _ _).1 .gs (by decide)).trans ((within_emptyPorts s).1 .gs (by decide))
  refine Ends.next ?_
  rw [State.serviceDone_gs, tested, derived]
  refine sequencerReset_lawful ?_
  show (s.emptyPorts.drop .drivelineReset).gs.lawful
  rw [dropped]
  exact h

/-- Every command keeps the Genset Sequencer's record lawful. -/
theorem execKeeps_sequencer : ExecKeeps fun s => s.gs.lawful := by
  refine execKeeps_of_rows (fun _ _ => Iff.rfl) (fun _ _ _ _ _ h _ => h) fun c s own h => ?_
  by_cases reaches : Piece.gs ∈ footprint c
  · cases c
    case powerOnReset => exact Ends.next Sequencer.reset_lawful
    case settingsLoadEnd => exact settingsLoadEnd_gs h
    case keyOn =>
      refine Ends.ite (fun _ => Ends.next h) fun _ => Ends.next ?_
      split
      · exact keyTaken_lawful (s := { s with key := true }) h
      · exact h
    case keyOff =>
      refine Ends.ite (fun _ => Ends.next ?_) fun _ => Ends.next h
      split
      · exact keyLost_lawful (s := { s with key := false }) h
      · exact h
    case portStateSequencer now => exact portStateSequencer_ends h now
    case gensetWantedChange w cause => exact gensetWantedChange_ends h w cause
    case gensetReportSignal c k f => exact Ends.next (takeGensetReport_lawful (s := s.consume _) h c k f)
    case activitySignal src => exact Ends.next (takeActivity_lawful (s := s.consume _) h src)
    case criticalMarkSignal => exact Ends.next (evaluateStart_lawful (s := s.consume _) h)
    case commitmentHanded kw index => exact commitmentHanded_ends h kw index
    case quietZoneSequencer on => exact quietZoneSequencer_ends h on
    case crankTimerExpiry => exact crankTimerExpiry_ends h
    case restTimerExpiry => exact restTimerExpiry_ends h
    case warmTimerExpiry => exact warmTimerExpiry_ends h
    case idleOffExpiry => exact idleOffExpiry_ends h
    case cooldownTimerExpiry => exact cooldownTimerExpiry_ends h
    case readItem n => exact readItem_ends h n
    case activityStatusRead => exact Ends.next (clearActivity_lawful (s := s.serviceAnswer _ _ _ _ _) h)
    case writeItem n b v => exact absurd rfl (own n b v)
    case writeCriticalMark v => exact Ends.next (writeCriticalMarkOp_lawful h v)
    case clearLockout => exact clearLockout_ends h
    case activity => exact Ends.next (serviceStart_lawful (takeActivity_lawful h _))
    case drivelineReset => exact drivelineReset_gs h
    all_goals exact absurd reaches (by simp [footprint, contractPieces])
  · refine ends_of_frame fun t within => ?_
    have same : t.gs = s.gs := within .gs reaches
    rw [same]
    exact h

theorem Sequencer.tick_lawful {s : State} (h : s.gs.lawful) : s.tick.gs.lawful := by
  refine ⟨h.attempts, ?_, ?_, ?_, ?_, ?_⟩ <;> intro run <;>
    simp only [State.tick, Timer.tick_isRunning] at run
  · exact h.crank run
  · exact h.rest run
  · exact h.warm run
  · exact h.cooldown run
  · exact h.idleOff run

/-! ### What the writes leave in the settings -/

theorem writeChargeMarkOp_settings (s : State) (mark : ChargeMark) (v : Int) :
    (s.writeChargeMarkOp mark v).settings = s.settings.withChargeMark mark (writtenIn 0 1000 v).value.toNat := by
  unfold State.writeChargeMarkOp
  dsimp only
  split
  · next same => exact same.symm
  · exact ((within_triggerIf _ _).1 .settings (by decide)).trans ((within_evaluateNeed _).1 .settings (by decide))

theorem writeCriticalMarkOp_settings (s : State) (v : Int) :
    (s.writeCriticalMarkOp v).settings = { s.settings with criticalMark := (writtenIn 0 1000 v).value.toNat } := by
  unfold State.writeCriticalMarkOp
  dsimp only
  split
  · rfl
  · exact (within_evaluateStart _).1 .settings (by decide)

theorem writeWarnGradeOp_settings (s : State) (kind : WarnGradeKind) (v : Int) :
    (s.writeWarnGradeOp kind v).settings = s.settings.withWarnGrade kind (writtenIn 1 7 v).value.toNat := by
  unfold State.writeWarnGradeOp
  cases kind <;> exact (within_takeLevels _ _).1 .settings (by decide)

theorem writeHeatCapacityOp_settings (s : State) (w : Wheel) (copy : Bool) (v : Int) :
    (s.writeHeatCapacityOp w copy v).settings =
      { s.settings with
        heatCapacity :=
          if copy then Six.fill (writtenIn 1000 65535 v).value.toNat
          else s.settings.heatCapacity.set w (writtenIn 1000 65535 v).value.toNat } :=
  (within_setWheels _ _).1 .settings (by decide)

theorem writeFadeThresholdOp_settings (s : State) (v : Int) :
    (s.writeFadeThresholdOp v).settings = { s.settings with fadeThreshold := (writtenIn 0 1023 v).value.toNat } :=
  (within_setWheels _ _).1 .settings (by decide)

@[simp] theorem State.driveLines_settings (s : State) : s.driveLines.settings = s.settings :=
  (within_driveLines s).1 .settings (by decide)

theorem writePolarityOp_settings (s : State) (line : Fin 8) (v : Int) :
    (s.writePolarityOp line v).settings =
      { s.settings with polarity := setBit s.settings.polarity line (decide ((writtenIn 0 1 v).value = 1)) } :=
  State.driveLines_settings _

/-- A mode vector that is written anew stands in the settings; the same one leaves them as they were. -/
theorem writeModeVectorOp_settings (s : State) (m : Mode) (v : Int) :
    (s.writeModeVectorOp m v).settings = { s.settings with vectors := s.settings.vectors.set m (BitVec.ofInt 8 v) } := by
  unfold State.writeModeVectorOp
  dsimp only
  split
  · next same =>
    rw [← same]
    cases m <;> rfl
  · split
    · exact State.driveLines_settings _
    · rfl

theorem writeRatedDrawOp_settings (s : State) (line : Fin 8) (v : Int) (h : s.settings.draws.length = 8) :
    (s.writeRatedDrawOp line v).settings =
      { s.settings with draws := s.settings.draws.set line (writtenIn 0 63 v).value.toNat } := by
  unfold State.writeRatedDrawOp
  dsimp only
  split
  · next same =>
    have inside : line.val < s.settings.draws.length := by rw [h]; exact line.isLt
    rw [← same, List.getD_eq_getElem _ _ inside, List.set_getElem_self]
  · rfl

/-- A plain setting's write leaves the vectors, the draws, the polarities and the masks as they were. -/
theorem writeSetting_keeps {x y : Settings} {n : Nat} {v : Int} {b : Bool} (h : writeSetting x n v = some (y, b)) :
    y.vectors = x.vectors ∧ y.draws = x.draws ∧ y.polarity = x.polarity ∧ y.masks = x.masks ∧ y.globalMask = x.globalMask := by
  have item : ∀ u, (x.withItem n u).vectors = x.vectors ∧ (x.withItem n u).draws = x.draws ∧
      (x.withItem n u).polarity = x.polarity ∧ (x.withItem n u).masks = x.masks ∧
      (x.withItem n u).globalMask = x.globalMask := by
    intro u
    unfold Settings.withItem
    split <;> exact ⟨rfl, rfl, rfl, rfl, rfl⟩
  unfold writeSetting at h
  split at h
  · cases h; exact ⟨rfl, rfl, rfl, rfl, rfl⟩
  · cases h; exact ⟨rfl, rfl, rfl, rfl, rfl⟩
  · obtain ⟨⟨lo, hi⟩, -, e⟩ := Option.map_eq_some_iff.1 h
    cases e
    exact item _

/-! ### The Auxiliary Output Unit -/

/-- The unit's law speaks of its record, the vectors, the draws and the polarities alone. -/
theorem State.auxLawful_congr {s t : State} (a : t.aux = s.aux) (v : t.settings.vectors = s.settings.vectors)
    (d : t.settings.draws = s.settings.draws) (p : t.settings.polarity = s.settings.polarity) (h : s.auxLawful) :
    t.auxLawful := by
  have allowances : t.settings.allowances = s.settings.allowances := by simp only [Settings.allowances, v, d]
  exact ⟨by rw [a, allowances]; exact h.allowances, by rw [a, v, p]; exact h.lines⟩

theorem State.auxLawful_of_settings {s t : State} (a : t.aux = s.aux) (x : t.settings = s.settings) (h : s.auxLawful) :
    t.auxLawful :=
  State.auxLawful_congr a (by rw [x]) (by rw [x]) (by rw [x]) h

/-- Lines driven afresh stand at the levels of the vector and the polarities, whatever they were before (R92). -/
theorem driveLines_lawful {s : State} (h : s.aux.allowances = s.settings.allowances) : s.driveLines.auxLawful := by
  unfold State.driveLines
  split
  · next e => exact ⟨h, fun g => absurd e g⟩
  · exact ⟨h, fun _ => rfl⟩

theorem deriveMode_lawful {s : State} (h : s.auxLawful) : s.deriveMode.auxLawful := by
  unfold State.deriveMode
  split
  · exact h
  · exact driveLines_lawful h.allowances

theorem writeModeVectorOp_lawful {s : State} (h : s.auxLawful) (m : Mode) (v : Int) : (s.writeModeVectorOp m v).auxLawful := by
  unfold State.writeModeVectorOp
  dsimp only
  split
  · exact h
  · split
    · exact driveLines_lawful rfl
    · next other =>
      refine ⟨rfl, fun g => (h.lines g).trans ?_⟩
      have stands : (s.settings.vectors.set m (BitVec.ofInt 8 v)).get s.aux.mode = s.settings.vectors.get s.aux.mode := by
        have other : s.aux.mode ≠ m := other
        revert other
        cases m <;> cases s.aux.mode <;> first | exact fun _ => rfl | exact fun ne => absurd rfl ne
      simp only [State.auxChanged, State.raise_settings, State.raise_aux, stands]

theorem writeRatedDrawOp_lawful {s : State} (h : s.auxLawful) (line : Fin 8) (v : Int) : (s.writeRatedDrawOp line v).auxLawful := by
  unfold State.writeRatedDrawOp
  dsimp only
  split
  · exact h
  · exact ⟨rfl, h.lines⟩

theorem settingsLoadEnd_aux {s : State} (h : s.auxLawful) : Ends State.auxLawful (execSettingsLoadEnd s) := by
  have started : ∀ i, (s.loadImages.startUnits.raise i).firstEvaluation.auxLawful := fun i =>
    State.auxLawful_of_settings (s := s.loadImages.startUnits) ((within_firstEvaluation _).1 .aux (by decide))
      ((within_firstEvaluation _).1 .settings (by decide)) ⟨rfl, fun _ => rfl⟩
  unfold execSettingsLoadEnd
  refine Ends.ite (fun _ => Ends.next h) fun _ => Ends.next ?_
  split
  · exact State.auxLawful_of_settings ((within_keyTaken _).1 .aux (by decide)) ((within_keyTaken _).1 .settings (by decide)) (started _)
  · exact started _

theorem drivelineReset_aux {s : State} (h : s.auxLawful) : Ends State.auxLawful (execDrivelineReset s) := by
  have reset : s.drivelineReset.auxLawful :=
    State.auxLawful_of_settings ((within_drivelineReset s).1 .aux (by decide)) ((within_drivelineReset s).1 .settings (by decide)) h
  refine Ends.next ?_
  exact State.auxLawful_of_settings (s := s.drivelineReset.deriveMode) ((within_testGate _).1 .aux (by decide))
    ((within_testGate _).1 .settings (by decide)) (deriveMode_lawful reset)

/-- A write that reaches neither the unit's record nor its settings. -/
theorem State.auxLawful_of_write {s t : State} {x : Settings} (h : s.auxLawful) (a : t.aux = s.aux) (e : t.settings = x)
    (keeps : x.vectors = s.settings.vectors ∧ x.draws = s.settings.draws ∧ x.polarity = s.settings.polarity) : t.auxLawful := by
  obtain ⟨vectors, draws, polarity⟩ := keeps
  exact State.auxLawful_congr a (by rw [e]; exact vectors) (by rw [e]; exact draws) (by rw [e]; exact polarity) h

/-- Every command keeps the Auxiliary Output Unit lawful. -/
theorem execKeeps_aux : ExecKeeps State.auxLawful := by
  refine execKeeps_of_rows (fun _ _ => ⟨fun h => ⟨h.allowances, h.lines⟩, fun h => ⟨h.allowances, h.lines⟩⟩) ?_ fun c s own h => ?_
  · intro s x n v b h e
    obtain ⟨vectors, draws, polarity, -⟩ := writeSetting_keeps e
    exact State.auxLawful_of_write (x := x) h rfl rfl ⟨vectors, draws, polarity⟩
  by_cases settings : Piece.settings ∈ footprint c
  · cases c
    case powerOnReset => exact Ends.next ⟨show State.reset.aux.allowances = State.reset.settings.allowances by decide, fun g => absurd rfl g⟩
    case settingsLoadEnd => exact settingsLoadEnd_aux h
    case writeItem n b v => exact absurd rfl (own n b v)
    case writeModeVector m v =>
      exact Ends.next (State.auxLawful_of_settings (s := s.writeModeVectorOp m v) rfl rfl (writeModeVectorOp_lawful h m v))
    case writeRatedDraw line v =>
      exact Ends.next (State.auxLawful_of_settings (s := s.writeRatedDrawOp line v) rfl rfl (writeRatedDrawOp_lawful h line v))
    case writePolarity line v =>
      exact Ends.next (State.auxLawful_of_settings (s := s.writePolarityOp line v) rfl rfl (driveLines_lawful h.allowances))
    case writeHeatCapacity w copy v =>
      exact Ends.next (State.auxLawful_of_write h ((within_writeHeatCapacityOp s w copy v).1 .aux (by decide))
        (writeHeatCapacityOp_settings s w copy v) ⟨rfl, rfl, rfl⟩)
    case writeFadeThreshold v =>
      exact Ends.next (State.auxLawful_of_write h ((within_writeFadeThresholdOp s v).1 .aux (by decide))
        (writeFadeThresholdOp_settings s v) ⟨rfl, rfl, rfl⟩)
    case writeWarnGrade kind v =>
      exact Ends.next (State.auxLawful_of_write h ((within_writeWarnGradeOp s kind v).1 .aux (by decide))
        (writeWarnGradeOp_settings s kind v) (by cases kind <;> exact ⟨rfl, rfl, rfl⟩))
    case writeChargeMark mark v =>
      exact Ends.next (State.auxLawful_of_write h ((within_writeChargeMarkOp s mark v).1 .aux (by decide))
        (writeChargeMarkOp_settings s mark v) (by cases mark <;> exact ⟨rfl, rfl, rfl⟩))
    case writeCriticalMark v =>
      exact Ends.next (State.auxLawful_of_write h ((within_writeCriticalMarkOp s v).1 .aux (by decide))
        (writeCriticalMarkOp_settings s v) ⟨rfl, rfl, rfl⟩)
    case writeDeliveryMask target v =>
      cases target <;> exact Ends.next (State.auxLawful_of_write h rfl rfl ⟨rfl, rfl, rfl⟩)
    all_goals exact absurd settings (by simp [footprint, contractPieces, gensetPieces, keyPieces])
  by_cases aux : Piece.aux ∈ footprint c
  · cases c
    case modeDerivation =>
      exact Ends.next (deriveMode_lawful (s := s.consume _) (State.auxLawful_of_settings (s := s) rfl rfl h))
    case drivelineReset => exact drivelineReset_aux h
    all_goals
      revert settings aux
      simp [footprint, allPieces, contractPieces, gensetPieces, keyPieces]
  · exact ends_of_frame fun t within => State.auxLawful_of_settings (within .aux aux) (within .settings settings) h

/-! ### The Blend Unit -/

theorem clip_le_storage (pDem rStorage r : Nat) : clip pDem rStorage r ≤ rStorage := Nat.min_le_right _ _

/-- Every run's result is lawful (R107, R108, R110, R111). -/
theorem run_lawful (x : Settings) (i : BlendInputs) (periodic : Bool) : (i.run x periodic).result.lawful := by
  refine ⟨run_applied_le_pDem x i periodic, ?_, rfl, splitAxles_sum _ _ _ _, ?_⟩
  · simp only [BlendInputs.run]
    split
    · exact Nat.zero_le _
    · exact clip_le_storage _ _ _
  · exact (splitWheels_sum _ _ _).trans (splitAxles_sum _ _ _ _)

theorem offerRegen_result (s : State) : s.offerRegen.blend.result = s.blend.result := by
  unfold State.offerRegen
  dsimp only
  split <;> rfl

theorem offerFriction_result (s : State) : s.offerFriction.blend.result = s.blend.result := by
  unfold State.offerFriction
  dsimp only
  split <;> rfl

theorem blendRun_lawful (s : State) (periodic : Bool) : (s.blendRun periodic).blend.result.lawful := by
  unfold State.blendRun
  dsimp only
  rw [offerFriction_result, offerRegen_result]
  exact run_lawful _ _ _

theorem forget_result (b : BlendUnit) (p : Port) : (b.forget p).result = b.result := by
  cases p <;> rfl

theorem drivelineReset_result (s : State) : Ends (fun t => t.blend.result = s.blend.result) (execDrivelineReset s) := by
  have tested : ∀ t : State, t.testGate.blend = t.blend := fun t => (within_testGate t).1 .blend (by decide)
  have derived : ∀ t : State, t.deriveMode.blend = t.blend := fun t => (within_deriveMode t).1 .blend (by decide)
  have reset : ∀ t : State, t.sequencerReset.blend = t.blend := fun t => (within_sequencerReset t).1 .blend (by decide)
  have dropped : ∀ t : State, (t.drop .drivelineReset).blend = t.blend := fun t => (within_drop t _).1 .blend (by decide)
  refine Ends.next ?_
  rw [State.serviceDone_blend, tested, derived]
  unfold State.drivelineReset
  simp only [reset, dropped]
  rfl

/-- Every command keeps the blend result lawful. -/
theorem execKeeps_blend : ExecKeeps fun s => s.blend.result.lawful := by
  refine execKeeps_of_rows (fun _ _ => Iff.rfl) (fun _ _ _ _ _ h _ => h) fun c s own h => ?_
  by_cases reaches : Piece.blend ∈ footprint c
  · cases c
    case powerOnReset =>
      exact Ends.next ⟨Nat.zero_le _, Nat.zero_le _, rfl, rfl, rfl⟩
    case settingsLoadEnd =>
      have keys : ∀ t : State, (if t.key = true then t.keyTaken else t).blend = t.blend := fun t => by
        split
        · exact (within_keyTaken t).1 .blend (by decide)
        · rfl
      have evaluated : ∀ t : State, t.firstEvaluation.blend = t.blend := fun t => (within_firstEvaluation t).1 .blend (by decide)
      refine Ends.ite (fun _ => Ends.next h) fun _ => Ends.next ?_
      rw [keys, evaluated]
      exact h
    case portStateBlend p now =>
      refine Ends.ite (fun _ => Ends.next ?_) fun _ => Ends.ite (fun _ => Ends.next (blendRun_lawful _ _)) fun _ => Ends.next h
      rw [forget_result]
      exact h
    case blendTimerExpiry => exact Ends.ite (fun _ => Ends.next (blendRun_lawful _ _)) fun _ => Ends.next h
    case blendImmediateRun => exact Ends.next (blendRun_lawful _ _)
    case fadeCopyUpdate => exact Ends.next h
    case portReset n =>
      show Ends _ (execPortReset n s)
      unfold execPortReset
      split
      · next p _ =>
        have changed : ∀ t : State, ∀ was now, (t.portChanged p was now).blend = t.blend :=
          fun t was now => (within_portChanged t p was now).1 .blend (by decide)
        refine Ends.next ?_
        unfold State.resetPort
        simp only [State.serviceDone_blend, changed, forget_result]
        exact h
      · exact Ends.next h
    case drivelineReset =>
      intro t ran
      show t.blend.result.lawful
      rw [drivelineReset_result s t ran]
      exact h
    case writeItem n b v => exact absurd rfl (own n b v)
    all_goals exact absurd reaches (by simp [footprint, contractPieces, gensetPieces, keyPieces])
  · refine ends_of_frame fun t within => ?_
    have same : t.blend = s.blend := within .blend reaches
    rw [same]
    exact h

end Sys2Proof.Machine

/-! ## The Wear Unit: what its operations leave in the records, and that every command keeps them lawful -/

namespace Sys2Proof.Machine

@[simp] theorem State.raiseIf_wear (s : State) (b : Bool) (c : Instr) : (s.raiseIf b c).wear = s.wear :=
  (within_raiseIf s b c).1 .wear (by decide)

@[simp] theorem State.handLevels_wear (s : State) (l : List OwnerLevel) : (s.handLevels l).wear = s.wear :=
  (within_handLevels s l).1 .wear (by decide)

@[simp] theorem State.requestWearSave_wear (s : State) : s.requestWearSave.wear = s.wear :=
  (within_requestWearSave s).1 .wear (by decide)

/-- Six wheel ends replaced stand in the record, with their any-fade level (R125). -/
@[simp] theorem State.setWheels_wear (s : State) (x : Six WheelEnd) :
    (s.setWheels x).wear = { s.wear with wheels := x, anyFade := anyFadeOf x } := by
  simp only [State.setWheels, State.raiseIf_wear, State.handLevels_wear]

@[simp] theorem State.setBattery_wear (s : State) (b : BatteryRecord) : (s.setBattery b).wear = { s.wear with battery := b } := by
  simp only [State.setBattery, State.raiseIf_wear]

@[simp] theorem State.setEngine_wear (s : State) (e : EngineRecord) : (s.setEngine e).wear = { s.wear with engine := e } := by
  simp only [State.setEngine, State.raiseIf_wear]

/-- One wheel end changed, or with COPY each of the six (R127). -/
theorem onWheels_get (x : Six WheelEnd) (w : Wheel) (copy : Bool) (f : WheelEnd → WheelEnd) (k : Wheel) :
    (onWheels x w copy f).get k = if copy = true ∨ k = w then f (x.get k) else x.get k := by
  cases copy with
  | true => simp [onWheels]
  | false =>
    by_cases e : k = w
    · subst e; simp [onWheels]
    · simp [onWheels, e]

theorem WheelEnd.regrade_graded (e : WheelEnd) : e.regrade.graded := rfl

/-- The fade flag bears on no grade, and a grade on no fade flag. -/
theorem WheelEnd.refade_graded {e : WheelEnd} (h : e.graded) (threshold : Nat) : (e.refade threshold).graded := h

theorem WearUnit.lawful.lawful_wheels {w : WearUnit} (h : w.lawful) {x : Six WheelEnd} (g : ∀ k, (x.get k).graded) :
    ({ w with wheels := x, anyFade := anyFadeOf x } : WearUnit).lawful :=
  ⟨g, h.batteryGrade, h.derate, h.engineGrade, h.penalty, rfl⟩

theorem WearUnit.lawful.lawful_battery {w : WearUnit} (h : w.lawful) (account residue life : Nat) :
    ({ w with battery := batteryRecord account residue life } : WearUnit).lawful :=
  ⟨h.pads, rfl, rfl, h.engineGrade, h.penalty, h.anyFade⟩

theorem WearUnit.lawful.lawful_engine {w : WearUnit} (h : w.lawful) (account life : Nat) :
    ({ w with engine := engineRecord account life } : WearUnit).lawful :=
  ⟨h.pads, h.batteryGrade, h.derate, rfl, rfl, h.anyFade⟩

theorem setWheels_lawful {s : State} (h : s.wear.lawful) {x : Six WheelEnd} (g : ∀ k, (x.get k).graded) :
    (s.setWheels x).wear.lawful := by
  rw [State.setWheels_wear]
  exact h.lawful_wheels g

theorem setBattery_lawful {s : State} (h : s.wear.lawful) (account residue life : Nat) :
    (s.setBattery (batteryRecord account residue life)).wear.lawful := by
  rw [State.setBattery_wear]
  exact h.lawful_battery account residue life

theorem setEngine_lawful {s : State} (h : s.wear.lawful) (account life : Nat) :
    (s.setEngine (engineRecord account life)).wear.lawful := by
  rw [State.setEngine_wear]
  exact h.lawful_engine account life

/-- A change of wheel ends that leaves each of those it takes graded. -/
theorem onWheels_graded {x : Six WheelEnd} {f : WheelEnd → WheelEnd} (h : ∀ k, (x.get k).graded)
    (hf : ∀ e : WheelEnd, e.graded → (f e).graded) (w : Wheel) (copy : Bool) (k : Wheel) : ((onWheels x w copy f).get k).graded := by
  rw [onWheels_get]
  split
  · exact hf _ (h k)
  · exact h k

theorem wheelsWritten_lawful {s : State} (h : s.wear.lawful) {f : WheelEnd → WheelEnd}
    (hf : ∀ e : WheelEnd, e.graded → (f e).graded) (w : Wheel) (copy : Bool) :
    (s.setWheels (onWheels s.wear.wheels w copy f)).wear.lawful :=
  setWheels_lawful h (onWheels_graded h.pads hf w copy)

theorem loadedWear_lawful (x : Settings) (c : WearContents) : (loadedWear x c).lawful :=
  ⟨fun w => by
    show ((loadedWheels x c).get w).graded
    rw [loadedWheels, sixOf_get]
    exact WheelEnd.refade_graded (WheelEnd.regrade_graded _) _,
    rfl, rfl, rfl, rfl, rfl⟩

theorem WearUnit.reset_lawful : WearUnit.reset.lawful :=
  ⟨fun x => by cases x <;> decide, by decide, by decide, by decide, by decide, by decide⟩

theorem settingsLoadEnd_wear {s : State} (h : s.wear.lawful) : Ends (fun t => t.wear.lawful) (execSettingsLoadEnd s) := by
  have evaluated : ∀ i, (s.loadImages.startUnits.raise i).firstEvaluation.wear.lawful := fun i => by
    rw [(within_firstEvaluation _).1 .wear (by decide)]
    exact loadedWear_lawful _ _
  have keyed : ∀ t : State, t.keyTaken.wear = t.wear := fun t => (within_keyTaken t).1 .wear (by decide)
  unfold execSettingsLoadEnd
  refine Ends.ite (fun _ => Ends.next h) fun _ => Ends.next ?_
  split
  · rw [keyed]
    exact evaluated _
  · exact evaluated _

theorem wearResetPad_ends {s : State} (h : s.wear.lawful) (n : Nat) (copy : Bool) :
    Ends (fun t => t.wear.lawful) (execWearResetPad n copy s) := by
  unfold execWearResetPad
  split
  · refine Ends.next ?_
    rw [State.serviceDone_wear, State.resetPads, State.requestWearSave_wear]
    exact wheelsWritten_lawful h (fun _ _ => WheelEnd.refade_graded (WheelEnd.regrade_graded _) _) _ _
  · exact Ends.next h

/-- Every command keeps the Wear Unit's records lawful. -/
theorem execKeeps_wear : ExecKeeps fun s => s.wear.lawful := by
  refine execKeeps_of_rows (fun _ _ => Iff.rfl) (fun _ _ _ _ _ h _ => h) fun c s own h => ?_
  by_cases reaches : Piece.wear ∈ footprint c
  · cases c
    case powerOnReset => exact Ends.next WearUnit.reset_lawful
    case settingsLoadEnd => exact settingsLoadEnd_wear h
    case frictionHandOff powers ms =>
      refine Ends.next (setWheels_lawful (s := s.consume _) h fun k => ?_)
      rw [sixOf_get]
      exact WheelEnd.refade_graded (WheelEnd.regrade_graded _) _
    case coolingTimerExpiry =>
      refine Ends.ite (fun _ => Ends.next (setWheels_lawful ?_ fun k => ?_)) fun _ => Ends.next h
      · exact ⟨h.pads, h.batteryGrade, h.derate, h.engineGrade, h.penalty, h.anyFade⟩
      · rw [Six.get_map]
        exact h.pads k
    case packHandOff => exact Ends.ite (fun _ => Ends.next (setBattery_lawful (s := s.consume _) h _ _ _)) fun _ => Ends.next h
    case startPointsHandOff => exact Ends.ite (fun _ => Ends.next (setEngine_lawful (s := s.consume _) h _ _)) fun _ => Ends.next h
    case writeItem n b v => exact absurd rfl (own n b v)
    case writePadAccount w copy v =>
      refine Ends.next ?_
      rw [State.writeDone_wear, State.writePadAccountOp, State.requestWearSave_wear]
      exact wheelsWritten_lawful h (fun _ _ => WheelEnd.regrade_graded _) w copy
    case writePadLife w copy v =>
      refine Ends.next ?_
      rw [State.writeDone_wear, State.writePadLifeOp, State.requestWearSave_wear]
      exact wheelsWritten_lawful h (fun _ _ => WheelEnd.regrade_graded _) w copy
    case writeHeatCapacity w copy v =>
      refine Ends.next ?_
      rw [State.writeDone_wear]
      refine setWheels_lawful ?_ (onWheels_graded ?_ (fun _ g => ?_) w copy)
      · exact h
      · exact h.pads
      · exact g
    case writeFadeThreshold v =>
      refine Ends.next ?_
      rw [State.writeDone_wear]
      refine setWheels_lawful ?_ fun k => ?_
      · exact h
      rw [Six.get_map]
      exact h.pads k
    case writeBatteryAccount v =>
      refine Ends.next ?_
      rw [State.writeDone_wear, State.writeBatteryAccountOp, State.requestWearSave_wear]
      exact setBattery_lawful h _ _ _
    case writeBatteryLife v =>
      refine Ends.next ?_
      rw [State.writeDone_wear, State.writeBatteryLifeOp, State.requestWearSave_wear]
      exact setBattery_lawful h _ _ _
    case writeEngineAccount v =>
      refine Ends.next ?_
      rw [State.writeDone_wear, State.writeEngineAccountOp, State.requestWearSave_wear]
      exact setEngine_lawful h _ _
    case writeEngineLife v =>
      refine Ends.next ?_
      rw [State.writeDone_wear, State.writeEngineLifeOp, State.requestWearSave_wear]
      exact setEngine_lawful h _ _
    case wearResetPad n copy => exact wearResetPad_ends h n copy
    case wearResetBattery =>
      refine Ends.next ?_
      rw [State.serviceDone_wear, State.requestWearSave_wear]
      exact setBattery_lawful h _ _ _
    case wearResetEngine =>
      refine Ends.next ?_
      rw [State.serviceDone_wear, State.requestWearSave_wear]
      exact setEngine_lawful h _ _
    all_goals exact absurd reaches (by simp [footprint, contractPieces, gensetPieces, keyPieces])
  · refine ends_of_frame fun t within => ?_
    have same : t.wear = s.wear := within .wear reaches
    rw [same]
    exact h

end Sys2Proof.Machine

/-! ## The Warning Unit's law: the summaries and the line of the latches, kept by every command -/

namespace Sys2Proof.Machine

/-- The law speaks of the unit's record and the masks alone. -/
theorem State.warningsLawful_congr {s t : State} (w : t.warn = s.warn) (m : t.settings.masks = s.settings.masks)
    (g : t.settings.globalMask = s.settings.globalMask) (h : s.warningsLawful) : t.warningsLawful := by
  refine ⟨by rw [w]; exact h.summaries, ?_⟩
  rw [w]
  simp only [serviceLineLow, m, g]
  exact h.line

theorem State.warningsLawful_of_settings {s t : State} (w : t.warn = s.warn) (x : t.settings = s.settings) (h : s.warningsLawful) :
    t.warningsLawful := State.warningsLawful_congr w (by rw [x]) (by rw [x]) h

theorem refreshWarnings_lawful (s : State) : s.refreshWarnings.warningsLawful := ⟨rfl, rfl⟩

theorem setLevel_lawful {s : State} (h : s.warningsLawful) (code : Nat) (level : Bool) : (s.setLevel code level).warningsLawful := by
  unfold State.setLevel
  dsimp only
  split
  · exact h
  · split
    · exact refreshWarnings_lawful _
    · exact ⟨h.summaries, h.line⟩

theorem takeLevels_lawful {s : State} (h : s.warningsLawful) (l : List OwnerLevel) : (s.takeLevels l).warningsLawful := by
  unfold State.takeLevels
  induction l generalizing s with
  | nil => exact h
  | cons a l ih => exact ih (setLevel_lawful h _ _)

theorem reform_lawful {s : State} (h : s.warningsLawful) (kind : WarnGradeKind) : (s.reform kind).warningsLawful := by
  cases kind <;> exact takeLevels_lawful h _

theorem writeMaskOp_lawful (s : State) (target : MaskTarget) (v : Int) : (s.writeMaskOp target v).warningsLawful := by
  cases target <;> exact refreshWarnings_lawful _

theorem settingsLoadEnd_warn {s : State} (h : s.warningsLawful) : Ends State.warningsLawful (execSettingsLoadEnd s) := by
  unfold execSettingsLoadEnd
  refine Ends.ite (fun _ => Ends.next h) fun _ => Ends.next ?_
  split
  · exact State.warningsLawful_of_settings ((within_keyTaken _).1 .warn (by decide)) ((within_keyTaken _).1 .settings (by decide))
      (refreshWarnings_lawful _)
  · exact refreshWarnings_lawful _

/-- A write that reaches neither the unit's record nor its masks. -/
theorem State.warningsLawful_of_write {s t : State} {x : Settings} (h : s.warningsLawful) (w : t.warn = s.warn) (e : t.settings = x)
    (keeps : x.masks = s.settings.masks ∧ x.globalMask = s.settings.globalMask) : t.warningsLawful := by
  obtain ⟨masks, globalMask⟩ := keeps
  exact State.warningsLawful_congr w (by rw [e]; exact masks) (by rw [e]; exact globalMask) h

theorem writeModeVector_masks (s : State) (m : Mode) (v : Int) :
    (s.writeModeVectorOp m v).settings.masks = s.settings.masks ∧
      (s.writeModeVectorOp m v).settings.globalMask = s.settings.globalMask := by
  rw [writeModeVectorOp_settings]
  exact ⟨rfl, rfl⟩

theorem writeRatedDraw_masks (s : State) (line : Fin 8) (v : Int) :
    (s.writeRatedDrawOp line v).settings.masks = s.settings.masks ∧
      (s.writeRatedDrawOp line v).settings.globalMask = s.settings.globalMask := by
  unfold State.writeRatedDrawOp
  dsimp only
  split <;> exact ⟨rfl, rfl⟩

/-- Every command keeps the Warning Unit lawful. -/
theorem execKeeps_warnings : ExecKeeps State.warningsLawful := by
  refine execKeeps_of_rows (fun _ _ => ⟨fun h => ⟨h.summaries, h.line⟩, fun h => ⟨h.summaries, h.line⟩⟩) ?_ fun c s own h => ?_
  · intro s x n v b h e
    obtain ⟨-, -, -, masks⟩ := writeSetting_keeps e
    exact State.warningsLawful_of_write (x := x) h rfl rfl masks
  by_cases settings : Piece.settings ∈ footprint c
  · cases c
    case powerOnReset => exact Ends.next (State.warningsLawful_of_settings (s := State.reset) rfl rfl ⟨by decide, by decide⟩)
    case settingsLoadEnd => exact settingsLoadEnd_warn h
    case writeItem n b v => exact absurd rfl (own n b v)
    case writeModeVector m v =>
      exact Ends.next (State.warningsLawful_of_write (x := (s.writeModeVectorOp m v).settings) h
        ((within_writeModeVectorOp s m v).1 .warn (by decide)) rfl (writeModeVector_masks s m v))
    case writeRatedDraw line v =>
      exact Ends.next (State.warningsLawful_of_write (x := (s.writeRatedDrawOp line v).settings) h
        ((within_writeRatedDrawOp s line v).1 .warn (by decide)) rfl (writeRatedDraw_masks s line v))
    case writePolarity line v =>
      exact Ends.next (State.warningsLawful_of_write h ((within_writePolarityOp s line v).1 .warn (by decide))
        (writePolarityOp_settings s line v) ⟨rfl, rfl⟩)
    case writeHeatCapacity w copy v =>
      exact Ends.next (State.warningsLawful_of_write h ((within_writeHeatCapacityOp s w copy v).1 .warn (by decide))
        (writeHeatCapacityOp_settings s w copy v) ⟨rfl, rfl⟩)
    case writeFadeThreshold v =>
      exact Ends.next (State.warningsLawful_of_write h ((within_writeFadeThresholdOp s v).1 .warn (by decide))
        (writeFadeThresholdOp_settings s v) ⟨rfl, rfl⟩)
    case writeWarnGrade kind v =>
      refine Ends.next (State.warningsLawful_of_settings (s := s.writeWarnGradeOp kind v) rfl rfl (reform_lawful ?_ kind))
      exact State.warningsLawful_congr (s := s) rfl (by cases kind <;> rfl) (by cases kind <;> rfl) h
    case writeChargeMark mark v =>
      exact Ends.next (State.warningsLawful_of_write h ((within_writeChargeMarkOp s mark v).1 .warn (by decide))
        (writeChargeMarkOp_settings s mark v) (by cases mark <;> exact ⟨rfl, rfl⟩))
    case writeCriticalMark v =>
      exact Ends.next (State.warningsLawful_of_write h ((within_writeCriticalMarkOp s v).1 .warn (by decide))
        (writeCriticalMarkOp_settings s v) ⟨rfl, rfl⟩)
    case writeDeliveryMask target v =>
      exact Ends.next (State.warningsLawful_of_settings (s := s.writeMaskOp target v) rfl rfl (writeMaskOp_lawful s target v))
    all_goals exact absurd settings (by simp [footprint, contractPieces, gensetPieces, keyPieces])
  by_cases warn : Piece.warn ∈ footprint c
  · cases c
    case conditionLevelChange l =>
      exact Ends.ite (fun _ => Ends.next (takeLevels_lawful (s := s.consume _) ⟨h.summaries, h.line⟩ l)) fun _ =>
        Ends.next ⟨h.summaries, h.line⟩
    case clearWarnings codes =>
      exact Ends.ite (fun _ => Ends.next ⟨h.summaries, h.line⟩) fun _ => Ends.next ⟨rfl, rfl⟩
    all_goals
      revert settings warn
      simp [footprint, allPieces, contractPieces, gensetPieces, keyPieces]
  · exact ends_of_frame fun t within => State.warningsLawful_of_settings (within .warn warn) (within .settings settings) h

end Sys2Proof.Machine

/-! ## Every setting within its range, and the law of every unit kept by every step -/

namespace Sys2Proof.Machine

/-! ### What is written lies within its range -/

/-- A value clamped to a range of naturals, read as one, is within it. -/
theorem writtenIn_toNat_within {lo hi : Nat} (h : lo ≤ hi) (v : Int) :
    (writtenIn lo hi v).value.toNat = max lo (min hi (writtenIn lo hi v).value.toNat) := by
  simp only [writtenIn, clampInt_eq (show (lo : Int) ≤ hi by exact_mod_cast h)]
  omega

/-- The same where the range begins at 0. -/
theorem writtenIn_toNat_below (hi : Nat) (v : Int) :
    (writtenIn 0 hi v).value.toNat = min hi (writtenIn 0 hi v).value.toNat := by
  simp only [writtenIn, clampInt_eq (show (0 : Int) ≤ hi by omega)]
  omega

theorem writtenIn_within {lo hi : Int} (h : lo ≤ hi) (v : Int) :
    (writtenIn lo hi v).value = max lo (min hi (writtenIn lo hi v).value) := by
  simp only [writtenIn, clampInt_eq h]
  omega

theorem writtenBlendPeriod_within (v : Int) :
    (writtenBlendPeriod v).value.toNat =
      if (writtenBlendPeriod v).value.toNat ≤ 15 then 10 else if (writtenBlendPeriod v).value.toNat ≤ 30 then 20 else 40 := by
  unfold writtenBlendPeriod
  dsimp only
  split
  · rfl
  · split <;> rfl

theorem writtenSilenceWindow_within (v : Int) :
    (writtenSilenceWindow v).value.toNat = max 20 (min 500 (writtenSilenceWindow v).value.toNat) / 10 * 10 := by
  unfold writtenSilenceWindow
  dsimp only
  rw [clampInt_eq (by omega)]
  omega

/-! ### The settings loaded -/

theorem Settings.default_lawful : Settings.default.clampedFrom Settings.default := Settings.clampedFrom_iff.mpr (by decide +kernel)

/-- A figure clamped to a range is within it: to clamp it again changes nothing. -/
theorem clamp_again {lo hi a b : Nat} (h : lo ≤ hi) (e : a = max lo (min hi b)) : a = max lo (min hi a) := by omega

theorem clampInt_again {lo hi a b : Int} (h : lo ≤ hi) (e : a = max lo (min hi b)) : a = max lo (min hi a) := by omega

theorem cap_again {hi a b : Nat} (e : a = min hi b) : a = min hi a := by omega

/-- The blend period nearest to one of the three is that one (R99). -/
theorem blendPeriod_again {a b : Nat} (e : a = if b ≤ 15 then 10 else if b ≤ 30 then 20 else 40) :
    a = if a ≤ 15 then 10 else if a ≤ 30 then 20 else 40 := by
  rw [e]
  split
  · rfl
  · split <;> rfl

/-- Settings clamped from some others are within their ranges. -/
theorem Settings.clampedFrom.self {x y : Settings} (h : y.clampedFrom x) : y.clampedFrom y where
    activityRise := clamp_again (by decide) h.activityRise
    hysteresis := cap_again h.hysteresis
    chargeStart := cap_again h.chargeStart
    chargeStop := cap_again h.chargeStop
    criticalMark := cap_again h.criticalMark
    chargeTarget := cap_again h.chargeTarget
    regenCap := cap_again h.regenCap
    window := clamp_again (by decide) h.window
    crank := clamp_again (by decide) h.crank
    warm := clamp_again (by decide) h.warm
    cooldown := clamp_again (by decide) h.cooldown
    quietCooldown := clamp_again (by decide) h.quietCooldown
    warmTemp := clampInt_again (by decide) h.warmTemp
    idleOffCode := cap_again h.idleOffCode
    vLo := cap_again h.vLo
    vHi := cap_again h.vHi
    eta := clamp_again (by decide) h.eta
    driveShare := cap_again h.driveShare
    hotShare := cap_again h.hotShare
    upSlope := clamp_again (by decide) h.upSlope
    downSlope := clamp_again (by decide) h.downSlope
    catchUp := cap_again h.catchUp
    ambient := clampInt_again (by decide) h.ambient
    restartMargin := cap_again h.restartMargin
    warmThreshold := cap_again h.warmThreshold
    hotThreshold := cap_again h.hotThreshold
    fadeThreshold := cap_again h.fadeThreshold
    highRate := cap_again h.highRate
    packHot := clampInt_again (by decide) h.packHot
    padWarn := clamp_again (by decide) h.padWarn
    batteryWarn := clamp_again (by decide) h.batteryWarn
    engineWarn := clamp_again (by decide) h.engineWarn
    address := cap_again h.address
    activityMasks := ⟨rfl, rfl, rfl, rfl⟩
    vectors := rfl
    polarity := rfl
    globalMask := rfl
    draws := ⟨h.draws.1, fun i hi => cap_again (h.draws.2 i hi)⟩
    edges := ⟨h.edges.1, fun _ _ => rfl⟩
    masks := ⟨h.masks.1, fun _ _ => rfl⟩
    heatCapacity := fun w => clamp_again (by decide) (h.heatCapacity w)
    blendPeriod := blendPeriod_again h.blendPeriod
    silenceWindow := by
      have := h.silenceWindow
      omega

theorem loadSettings_lawful (t : Store) : t.loadSettings.1.clampedFrom t.loadSettings.1 := by
  unfold Store.loadSettings
  split
  · exact (Settings.clampedFrom_iff.mpr rfl).self
  · exact Settings.default_lawful

/-! ### The settings written -/

/-- The items of the edge selections (R161). -/
theorem withItem_edges (x : Settings) {n : Nat} (h : 0x560 ≤ n ∧ n ≤ 0x576) (v : Int) :
    x.withItem n v = { x with edges := x.edges.set (n - 0x560) (Edge.ofInt v) } := by
  unfold Settings.withItem
  split
  case h_31 => rfl
  all_goals omega

/-- A setting stored within its range leaves every setting within its range (R161, R162). -/
theorem withItem_lawful {x : Settings} (h : x.clampedFrom x) {n : Nat} {lo hi : Int} (r : settingRange n = some (lo, hi)) (v : Int) :
    (x.withItem n (writtenIn lo hi v).value).clampedFrom (x.withItem n (writtenIn lo hi v).value) := by
  unfold settingRange at r
  split at r
  · cases r; exact { h with activityRise := writtenIn_toNat_within (lo := 5) (hi := 100) (by decide) v }
  · cases r; exact { h with hysteresis := writtenIn_toNat_below 50 v }
  · cases r; exact { h with chargeTarget := writtenIn_toNat_below 1023 v }
  · cases r; exact { h with regenCap := writtenIn_toNat_below 1023 v }
  · cases r; exact { h with window := writtenIn_toNat_within (lo := 50) (hi := 1000) (by decide) v }
  · cases r; exact { h with crank := writtenIn_toNat_within (lo := 2) (hi := 15) (by decide) v }
  · cases r; exact { h with warm := writtenIn_toNat_within (lo := 10) (hi := 600) (by decide) v }
  · cases r; exact { h with cooldown := writtenIn_toNat_within (lo := 5) (hi := 300) (by decide) v }
  · cases r; exact { h with quietCooldown := writtenIn_toNat_within (lo := 1) (hi := 30) (by decide) v }
  · cases r; exact { h with warmTemp := writtenIn_within (by decide) v }
  · cases r; exact { h with idleOffCode := writtenIn_toNat_below 15 v }
  · cases r; exact { h with activityMasks := ⟨rfl, rfl, rfl, rfl⟩ }
  · cases r; exact { h with activityMasks := ⟨rfl, rfl, rfl, rfl⟩ }
  · cases r; exact { h with activityMasks := ⟨rfl, rfl, rfl, rfl⟩ }
  · cases r; exact { h with activityMasks := ⟨rfl, rfl, rfl, rfl⟩ }
  · cases r; exact { h with vLo := writtenIn_toNat_below 300 v }
  · cases r; exact { h with vHi := writtenIn_toNat_below 300 v }
  · cases r; exact { h with eta := writtenIn_toNat_within (lo := 70) (hi := 100) (by decide) v }
  · cases r; exact { h with driveShare := writtenIn_toNat_below 100 v }
  · cases r; exact { h with hotShare := writtenIn_toNat_below 100 v }
  · cases r; exact { h with upSlope := writtenIn_toNat_within (lo := 1) (hi := 255) (by decide) v }
  · cases r; exact { h with downSlope := writtenIn_toNat_within (lo := 1) (hi := 255) (by decide) v }
  · cases r; exact { h with catchUp := writtenIn_toNat_below 1023 v }
  · cases r; exact { h with ambient := writtenIn_within (by decide) v }
  · cases r; exact { h with restartMargin := writtenIn_toNat_below 200 v }
  · cases r; exact { h with warmThreshold := writtenIn_toNat_below 1023 v }
  · cases r; exact { h with hotThreshold := writtenIn_toNat_below 1023 v }
  · cases r; exact { h with highRate := writtenIn_toNat_below 1023 v }
  · cases r; exact { h with packHot := writtenIn_within (by decide) v }
  · cases r; exact { h with address := writtenIn_toNat_below 127 v }
  · split at r
    · next edge =>
      cases r
      rw [withItem_edges x edge]
      exact { h with edges := ⟨(List.length_set ..).trans h.edges.1, fun _ _ => rfl⟩ }
    · cases r

theorem writeSetting_lawful {x y : Settings} (h : x.clampedFrom x) {n : Nat} {v : Int} {b : Bool}
    (e : writeSetting x n v = some (y, b)) : y.clampedFrom y := by
  unfold writeSetting at e
  split at e
  · cases e; exact { h with blendPeriod := writtenBlendPeriod_within v }
  · cases e; exact { h with silenceWindow := writtenSilenceWindow_within v }
  · obtain ⟨⟨lo, hi⟩, range, e⟩ := Option.map_eq_some_iff.1 e
    cases e
    exact withItem_lawful h range v

theorem withChargeMark_lawful {x : Settings} (h : x.clampedFrom x) (mark : ChargeMark) (v : Int) :
    (x.withChargeMark mark (writtenIn 0 1000 v).value.toNat).clampedFrom (x.withChargeMark mark (writtenIn 0 1000 v).value.toNat) := by
  cases mark with
  | start => exact { h with chargeStart := writtenIn_toNat_below 1000 v }
  | stop => exact { h with chargeStop := writtenIn_toNat_below 1000 v }

theorem withWarnGrade_lawful {x : Settings} (h : x.clampedFrom x) (kind : WarnGradeKind) (v : Int) :
    (x.withWarnGrade kind (writtenIn 1 7 v).value.toNat).clampedFrom (x.withWarnGrade kind (writtenIn 1 7 v).value.toNat) := by
  have within := writtenIn_toNat_within (show 1 ≤ 7 by decide) v
  cases kind with
  | pad => exact { h with padWarn := within }
  | battery => exact { h with batteryWarn := within }
  | engine => exact { h with engineWarn := within }

theorem withDraw_lawful {x : Settings} (h : x.clampedFrom x) (line : Fin 8) (v : Int) :
    ({ x with draws := x.draws.set line (writtenIn 0 63 v).value.toNat } : Settings).clampedFrom
      { x with draws := x.draws.set line (writtenIn 0 63 v).value.toNat } := by
  obtain ⟨length, draws⟩ := h.draws
  refine { h with draws := ⟨(List.length_set ..).trans length, fun i hi => ?_⟩ }
  by_cases same : i = line.val
  · subst same
    rw [List.getD_eq_getElem _ _ (by rw [List.length_set]; omega), List.getElem_set_self]
    exact writtenIn_toNat_below 63 v
  · rw [List.getD_eq_getElem?_getD, List.getElem?_set_ne (Ne.symm same), ← List.getD_eq_getElem?_getD]
    exact draws i hi

theorem withHeatCapacity_lawful {x : Settings} (h : x.clampedFrom x) (w : Wheel) (copy : Bool) (v : Int) :
    let c := (writtenIn 1000 65535 v).value.toNat
    let y := { x with heatCapacity := if copy then Six.fill c else x.heatCapacity.set w c }
    y.clampedFrom y := by
  have within := writtenIn_toNat_within (show 1000 ≤ 65535 by decide) v
  refine { h with heatCapacity := fun k => ?_ }
  cases copy with
  | true => cases k <;> exact within
  | false =>
    by_cases same : k = w
    · subst same
      simp only [Bool.false_eq_true, ↓reduceIte, Six.get_set_self]
      exact within
    · simp only [Bool.false_eq_true, ↓reduceIte, Six.get_set_other _ _ _ _ same]
      exact h.heatCapacity k

theorem writeMaskOp_settings (s : State) (target : MaskTarget) (v : Int) (h : s.settingsLawful) :
    (s.writeMaskOp target v).settingsLawful := by
  cases target with
  | code c =>
    exact { h with masks := ⟨(List.length_set ..).trans h.masks.1, fun _ _ => rfl⟩ }
  | globalMask => exact { h with globalMask := rfl }

theorem settingsLoadEnd_settings {s : State} (h : s.settingsLawful) : Ends State.settingsLawful (execSettingsLoadEnd s) := by
  have evaluated : ∀ i, (s.loadImages.startUnits.raise i).firstEvaluation.settingsLawful := fun i => by
    unfold State.settingsLawful
    rw [(within_firstEvaluation _).1 .settings (by decide)]
    exact loadSettings_lawful s.store
  have keyed : ∀ t : State, t.keyTaken.settings = t.settings := fun t => (within_keyTaken t).1 .settings (by decide)
  unfold execSettingsLoadEnd
  refine Ends.ite (fun _ => Ends.next h) fun _ => Ends.next ?_
  split
  · unfold State.settingsLawful
    rw [keyed]
    exact evaluated _
  · exact evaluated _

/-- A command that leaves these settings, each within its range. -/
theorem State.settingsLawful_of {s : State} {x : Settings} (e : s.settings = x) (h : x.clampedFrom x) : s.settingsLawful := by
  unfold State.settingsLawful
  rw [e]
  exact h

/-- Every command keeps every setting within its range. -/
theorem execKeeps_settings : ExecKeeps State.settingsLawful := by
  refine execKeeps_of_rows (fun _ _ => Iff.rfl) (fun _ _ _ _ _ h e => writeSetting_lawful h e) fun c s own h => ?_
  have lawful : s.settings.clampedFrom s.settings := h
  by_cases reaches : Piece.settings ∈ footprint c
  · cases c
    case powerOnReset => exact Ends.next Settings.default_lawful
    case settingsLoadEnd => exact settingsLoadEnd_settings h
    case writeItem n b v => exact absurd rfl (own n b v)
    case writeModeVector m v =>
      exact Ends.next (State.settingsLawful_of (writeModeVectorOp_settings s m v) { lawful with vectors := rfl })
    case writeRatedDraw line v =>
      exact Ends.next (State.settingsLawful_of (writeRatedDrawOp_settings s line v lawful.draws.1) (withDraw_lawful lawful line v))
    case writePolarity line v =>
      exact Ends.next (State.settingsLawful_of (writePolarityOp_settings s line v) { lawful with polarity := rfl })
    case writeHeatCapacity w copy v =>
      exact Ends.next (State.settingsLawful_of (writeHeatCapacityOp_settings s w copy v) (withHeatCapacity_lawful lawful w copy v))
    case writeFadeThreshold v =>
      exact Ends.next (State.settingsLawful_of (writeFadeThresholdOp_settings s v)
        { lawful with fadeThreshold := writtenIn_toNat_below 1023 v })
    case writeWarnGrade kind v =>
      exact Ends.next (State.settingsLawful_of (writeWarnGradeOp_settings s kind v) (withWarnGrade_lawful lawful kind v))
    case writeChargeMark mark v =>
      exact Ends.next (State.settingsLawful_of (writeChargeMarkOp_settings s mark v) (withChargeMark_lawful lawful mark v))
    case writeCriticalMark v =>
      exact Ends.next (State.settingsLawful_of (writeCriticalMarkOp_settings s v)
        { lawful with criticalMark := writtenIn_toNat_below 1000 v })
    case writeDeliveryMask target v => exact Ends.next (writeMaskOp_settings s target v h)
    all_goals exact absurd reaches (by simp [footprint, contractPieces, gensetPieces, keyPieces])
  · exact ends_of_frame fun t within => State.settingsLawful_of (within .settings reaches) lawful

/-! ### A millisecond -/

theorem tick_queuesLawful {s : State} (h : s.queuesLawful) : s.tick.queuesLawful := by
  intro p
  have same := h p
  cases p <;> exact same

theorem execKeeps_queues : ExecKeeps State.queuesLawful := fun _ _ h _ ran => (exec_tidy ran).2 h

/-- Settles O60: each unit's law is kept by every command, and by a millisecond, which moves its timer alone. -/
theorem everyStepKeepsTheUnitsLawful : Obligations.EveryStepKeepsTheUnitsLawful := fun _ _ stepped =>
  ⟨step_keeps (P := fun s => s.gs.lawful) (fun _ _ h => h) (fun _ => Sequencer.tick_lawful) execKeeps_sequencer stepped,
    step_keeps (P := State.auxLawful) (fun _ _ h => ⟨h.allowances, h.lines⟩) (fun _ h => ⟨h.allowances, h.lines⟩) execKeeps_aux stepped,
    step_keeps (P := fun s => s.blend.result.lawful) (fun _ _ h => h) (fun _ h => h) execKeeps_blend stepped,
    step_keeps (P := fun s => s.wear.lawful) (fun _ _ h => h)
      (fun _ h => ⟨h.pads, h.batteryGrade, h.derate, h.engineGrade, h.penalty, h.anyFade⟩) execKeeps_wear stepped,
    step_keeps (P := State.warningsLawful) (fun _ _ h => ⟨h.summaries, h.line⟩) (fun _ h => ⟨h.summaries, h.line⟩) execKeeps_warnings stepped,
    step_keeps (P := State.queuesLawful) (fun _ _ h => h) (fun _ => tick_queuesLawful) execKeeps_queues stepped,
    step_keeps (P := State.settingsLawful) (fun _ _ h => h) (fun _ h => h) execKeeps_settings stepped⟩

end Sys2Proof.Machine

/-! ## Replies, raised signals and written values: the rules the commands' statements use -/

namespace Sys2Proof.Machine

/-! ### Frames of commands and operations, piece by piece -/

theorem within_of_exec {c : Instr} {s t : State} (h : exec c s = .next t) : Within (footprint c) s t := (exec_tidy h).1

theorem Within.mono {l m : List Piece} {s t : State} (h : Within l s t) (sub : l ⊆ m) : Within m s t := fun p hp => h p fun q => hp (sub q)

theorem Within.trans {l : List Piece} {s t u : State} (h : Within l s t) (g : Within l t u) : Within l s u :=
  fun p hp => by
    have a := h p hp
    have b := g p hp
    cases p <;> exact Eq.trans b a

theorem Within.refl (l : List Piece) (s : State) : Within l s s := fun p _ => by cases p <;> rfl

/-! ### Raised signals -/

@[simp] theorem State.raiseIf_signals (s : State) (b : Bool) (c : Instr) :
    (s.raiseIf b c).signals = s.signals ++ if b then [c] else [] := by
  unfold State.raiseIf
  cases b <;> simp

@[simp] theorem State.handLevels_signals (s : State) (l : List OwnerLevel) :
    (s.handLevels l).signals = s.signals ++ if l = [] then [] else [.conditionLevelChange l] := by
  unfold State.handLevels
  cases l <;> simp

@[simp] theorem State.raiseIf_ports (s : State) (b : Bool) (c : Instr) : (s.raiseIf b c).ports = s.ports :=
  (within_raiseIf s b c).1 .ports (by decide)

@[simp] theorem State.raiseIf_view (s : State) (b : Bool) (c : Instr) : (s.raiseIf b c).view = s.view :=
  (within_raiseIf s b c).1 .view (by decide)

@[simp] theorem State.raiseIf_gs (s : State) (b : Bool) (c : Instr) : (s.raiseIf b c).gs = s.gs :=
  (within_raiseIf s b c).1 .gs (by decide)

@[simp] theorem State.raiseIf_store (s : State) (b : Bool) (c : Instr) : (s.raiseIf b c).store = s.store :=
  (within_raiseIf s b c).1 .store (by decide)

@[simp] theorem State.raiseIf_svc (s : State) (b : Bool) (c : Instr) : (s.raiseIf b c).svc = s.svc :=
  (within_raiseIf s b c).1 .svc (by decide)

@[simp] theorem State.raiseIf_settings (s : State) (b : Bool) (c : Instr) : (s.raiseIf b c).settings = s.settings :=
  (within_raiseIf s b c).1 .settings (by decide)

@[simp] theorem State.handLevels_ports (s : State) (l : List OwnerLevel) : (s.handLevels l).ports = s.ports :=
  (within_handLevels s l).1 .ports (by decide)

@[simp] theorem State.handLevels_view (s : State) (l : List OwnerLevel) : (s.handLevels l).view = s.view :=
  (within_handLevels s l).1 .view (by decide)

/-- A signal raised on a condition leaves every part but the signals as it was. -/
theorem State.raiseIf_eq (s : State) (b : Bool) (c : Instr) :
    s.raiseIf b c = { s with signals := s.signals ++ if b then [c] else [] } := by
  unfold State.raiseIf
  cases b with
  | true => rfl
  | false => simp

/-! ### Ports -/

theorem State.port_congr {s t : State} (h : t.ports = s.ports) (p : Port) : t.port p = s.port p := by
  simp only [State.port, h]

/-- A reply placed changes the slot and the discarded request alone, and fills the slot reserved for its request, or an empty one
that no discarded request waits for (R150). -/
theorem PartnerPort.place_eq (pp : PartnerPort) (request : Instr) (r : Reply) :
    pp.place request r = { pp with slot := (pp.place request r).slot, orphan := (pp.place request r).orphan } := by
  unfold PartnerPort.place
  split
  · rfl
  · split
    · rfl
    · split <;> rfl

theorem PartnerPort.place_slot {pp : PartnerPort} {request : Instr} (r : Reply)
    (h : pp.slot = .reserved request ∨ (pp.slot = .empty ∧ pp.orphan ≠ some request)) :
    (pp.place request r).slot = .reply r := by
  unfold PartnerPort.place
  rcases h with h | ⟨empty, orphan⟩
  · simp [h]
  · simp [empty, orphan]

/-- The port answers: whatever else a state's other parts are, its ports are those of the state that answers. -/
theorem State.answered_of_ports {s u t : State} (before : u.ports = s.ports) {p : Port} {i : Instr} {k : Nat} {o : Answer} {b : Bool}
    {content : List Byte} (after : t.ports = (u.answer p i k o b content).ports) : s.answered t p i (.answer k o b content) := by
  have self : t.port p = (s.port p).place i (.answer k o b content) := by
    rw [State.port_congr after, State.answer, State.onPort_port_self, State.port_congr before]
  refine ⟨fun q ne => ?_, ?_, fun h => ?_⟩
  · rw [State.port_congr after, State.answer, State.onPort_port_other _ _ _ _ ne, State.port_congr before]
  · rw [self]
    exact PartnerPort.place_eq _ _ _
  · rw [self]
    exact PartnerPort.place_slot _ h

theorem State.answer_answered (s : State) (p : Port) (i : Instr) (k : Nat) (o : Answer) (b : Bool) (content : List Byte) :
    s.answered (s.answer p i k o b content) p i (.answer k o b content) := State.answered_of_ports rfl rfl

theorem State.answered.repliesOn {s t : State} {p : Port} {i : Instr} {r : Reply} (h : s.answered t p i r) : s.repliesOn t p i r := by
  obtain ⟨-, -, slot⟩ := h
  exact fun reserved => slot (.inl reserved)

theorem answer_within (s : State) (p : Port) (i : Instr) (k : Nat) (o : Answer) (b : Bool) (l : List Byte) :
    Within [.ports] s (s.answer p i k o b l) := (within_answer s p i k o b l).1

/-! ### The Service port -/

/-- The reply to the request in process is placed, when no read waits for it (R159). -/
theorem State.serviceAnswer_replies {s u : State} (before : u.svc = s.svc) (i : Instr) (k : Nat) (o : Answer) (b : Bool)
    (content : List Byte) : s.repliesService (u.serviceAnswer i k o b content) i (.answer k o b content) := by
  intro inProcess hold
  simp [State.serviceAnswer, before, ServicePort.place, inProcess, hold]

theorem State.serviceDone_replies {s u : State} (before : u.svc = s.svc) (i : Instr) (k : Nat) :
    s.repliesService (u.serviceDone i k) i (.answer k .done false []) := State.serviceAnswer_replies before i k .done false []

/-! ### Written values -/

theorem writtenIn_value {lo hi : Int} (h : lo ≤ hi) (v : Int) : (writtenIn lo hi v).value = max lo (min hi v) := clampInt_eq h v

/-- A value written is clamped exactly when it lies outside the range (R162). -/
theorem writtenIn_clamped {lo hi : Int} (h : lo ≤ hi) (v : Int) : (writtenIn lo hi v).clamped = decide (v < lo ∨ hi < v) := by
  simp only [writtenIn, clampInt_eq h, decide_eq_decide]
  omega

/-- The reply to a write names CLAMPED exactly when the value lies outside the range (R162). -/
theorem State.writeDone_replies {s u : State} (before : u.svc = s.svc) (i : Instr) {lo hi : Int} (h : lo ≤ hi) (v : Int) :
    s.repliesService (u.writeDone i (writtenIn lo hi v).clamped) i (.answer 0x61 .done (decide (v < lo ∨ hi < v)) []) := by
  rw [← writtenIn_clamped h]
  exact State.serviceAnswer_replies before i 0x61 .done _ []

end Sys2Proof.Machine

/-! ## The Partner View: reports, offer lists and port states (chapter 1) -/

namespace Sys2Proof.Machine

/-! ### What is stored -/

theorem storeTraction_fields (r : TractionReport) :
    (storeTraction r).v = min r.v 300 ∧ (storeTraction r).pReq = min r.pReq 1023 ∧
      (storeTraction r).pMin = min (min r.pMin 1023) (storeTraction r).pReq ∧ (storeTraction r).giveBack = r.giveBack ∧
      (storeTraction r).rMot = min r.rMot 1023 ∧ (storeTraction r).motorTemp = max (-40) (min 200 r.motorTemp) := by
  simp only [storeTraction, clampNat_zero, clampInt_eq (show (-40 : Int) ≤ 200 by omega), Nat.min_comm, and_self]

theorem storePack_fields (r : PackReport) :
    (storePack r).soc = min r.soc 1000 ∧ (storePack r).temp = max (-40) (min 200 r.temp) ∧
      (storePack r).pPack = max (-1023) (min 1023 r.pPack) ∧ (storePack r).aAcc = min r.aAcc 1023 := by
  simp only [storePack, clampNat_zero, clampInt_eq (show (-40 : Int) ≤ 200 by omega), clampInt_eq (show (-1023 : Int) ≤ 1023 by omega),
    Nat.min_comm, and_self]

theorem storeGenset_condition (r : RawGensetReport) :
    (storeGenset r).condition =
      if r.condition = 0 then .stopped else if r.condition = 1 then .cranking else if r.condition = 2 then .running else .fault := by
  unfold storeGenset
  split <;> simp_all

theorem storeGenset_coolant (r : RawGensetReport) : (storeGenset r).coolant = max (-40) (min 200 r.coolant) := by
  rw [← clampInt_eq (show (-40 : Int) ≤ 200 by omega)]
  unfold storeGenset
  split <;> rfl

theorem storeGenset_fault (r : RawGensetReport) :
    (storeGenset r).fault = if r.condition = 3 then some r.fault else if r.condition < 3 then none else some 0 := by
  unfold storeGenset
  split
  case h_5 n h0 h1 h2 h3 =>
    have other : r.condition ≠ 3 := h3
    have above : ¬ r.condition < 3 := fun less => by
      have : r.condition = 0 ∨ r.condition = 1 ∨ r.condition = 2 := by omega
      rcases this with e | e | e
      · exact h0 e
      · exact h1 e
      · exact h2 e
    simp [other, above]
  all_goals simp_all

theorem gensetClamped_eq (r : RawGensetReport) :
    gensetClamped r = decide (3 < r.condition ∨ (storeGenset r).coolant ≠ r.coolant) := by
  rw [storeGenset_coolant, gensetClamped, clampInt_eq (show (-40 : Int) ≤ 200 by omega)]
  simp only [← Bool.decide_or]

theorem storeBrake_fields (r : BrakeDemand) :
    (storeBrake r).d = min r.d 600 ∧ (storeBrake r).m = max 80 (min 400 r.m) ∧ (storeBrake r).load1 = min r.load1 150 ∧
      (storeBrake r).load2 = min r.load2 150 ∧ (storeBrake r).load3 = min r.load3 150 := by
  simp only [storeBrake, clampNat_zero, clampNat_eq (show 80 ≤ 400 by omega), Nat.min_comm, and_self]

/-- A report's kind is a request on its own port alone (R149). -/
theorem partnerLength_reports (p : Port) (payload : List Byte) :
    (p ≠ .traction → partnerLength p 0x10 payload = none) ∧ (p ≠ .pack → partnerLength p 0x11 payload = none) ∧
      (p ≠ .genset → partnerLength p 0x12 payload = none) ∧ (p ≠ .brake → partnerLength p 0x13 payload = none) := by
  cases p <;> simp [partnerLength]

/-- Settles O4: each report is stored in its place and answered, and what it raises touches neither. -/
theorem reportsAreStoredWithinTheirRanges : Obligations.ReportsAreStoredWithinTheirRanges := by
  refine ⟨fun r s => ?_, fun r s => ?_, fun r s => ?_, fun r s => ?_, partnerLength_reports⟩
  · obtain ⟨v, pReq, pMin, giveBack, rMot, temp⟩ := storeTraction_fields r
    exact ⟨_, storeTraction r, rfl, State.raiseIf_view .., v, pReq, pMin, giveBack, rMot, temp,
      State.answered_of_ports (u := { s with view := _ }) rfl (State.raiseIf_ports ..)⟩
  · obtain ⟨soc, temp, pPack, aAcc⟩ := storePack_fields r
    refine ⟨_, storePack r, rfl, ?_, soc, temp, pPack, aAcc,
      State.answered_of_ports (u := { s with view := _ }) rfl ?_⟩
    · exact State.raiseIf_view ..
    · exact State.raiseIf_ports ..
  · refine ⟨_, storeGenset r, rfl, rfl, storeGenset_condition r, storeGenset_coolant r, storeGenset_fault r, ?_⟩
    rw [← gensetClamped_eq]
    exact State.answered_of_ports (u := { s with view := _ }) rfl rfl
  · obtain ⟨d, m, load1, load2, load3⟩ := storeBrake_fields r
    refine ⟨_, storeBrake r, rfl, ?_, d, m, load1, load2, load3, rfl, rfl, rfl, rfl,
      State.answered_of_ports (u := { s with view := _ }) rfl ?_⟩
    · exact (State.raiseIf_view ..).trans (State.raiseIf_view ..)
    · exact (State.raiseIf_ports ..).trans (State.raiseIf_ports ..)

/-! ### The report replaced (R9) -/

theorem fresh_eq_some {α : Type} {place : Option (Place α)} {old : α} : Place.fresh place = some old ↔ heldFresh place old := by
  rcases place with _ | ⟨content, arrival, _ | _⟩ <;> simp [Place.fresh, heldFresh]

/-- A flag that is set with no report to compare with, and else by the comparison. -/
theorem flag_iff_not_same {α : Type} {f : Option α → Bool} {same : α → Prop} (absent : f none = true)
    (held : ∀ o, f (some o) = true ↔ ¬ same o) (place : Option (Place α)) :
    f (Place.fresh place) = true ↔ ¬ ∃ old, heldFresh place old ∧ same old := by
  simp only [← fresh_eq_some]
  cases Place.fresh place with
  | none => simp [absent]
  | some o => simp [held o]

/-- A flag that is clear with no report to compare with, and else by the comparison. -/
theorem flag_iff_moved {α : Type} {f : Option α → Bool} {moved : α → Prop} (absent : f none = false)
    (held : ∀ o, f (some o) = true ↔ moved o) (place : Option (Place α)) :
    f (Place.fresh place) = true ↔ ∃ old, heldFresh place old ∧ moved old := by
  simp only [← fresh_eq_some]
  cases Place.fresh place with
  | none => simp [absent]
  | some o => simp [held o]

theorem crosses_eq_false {mark old new : Nat} : crosses mark old new = false ↔ (old < mark ↔ new < mark) := by
  simp [crosses]

theorem basisChanged_iff (h : Nat) (reference : Option (Nat × Nat)) (r : TractionReport) :
    basisChanged h reference r = true ↔ reference = none ∨ ∃ req low, reference = some (req, low) ∧
      ((h ≤ r.pReq - req ∧ 1 ≤ r.pReq - req) ∨ (h ≤ req - r.pReq ∧ 1 ≤ req - r.pReq) ∨
        (h ≤ r.pMin - low ∧ 1 ≤ r.pMin - low) ∨ (h ≤ low - r.pMin ∧ 1 ≤ low - r.pMin)) := by
  cases reference with
  | none => simp [basisChanged]
  | some x =>
    obtain ⟨req, low⟩ := x
    have far : ∀ a b, max h 1 ≤ apart a b ↔ (h ≤ a - b ∧ 1 ≤ a - b) ∨ (h ≤ b - a ∧ 1 ≤ b - a) := fun a b => by
      unfold apart
      split <;> omega
    simp only [basisChanged, Bool.or_eq_true, decide_eq_true_eq, far, reduceCtorEq, false_or, Option.some.injEq, Prod.mk.injEq]
    constructor
    · intro d
      exact ⟨req, low, ⟨rfl, rfl⟩, or_assoc.1 d⟩
    · rintro ⟨_, _, ⟨rfl, rfl⟩, d⟩
      exact or_assoc.2 d

theorem giveBackChanged_iff (place : Option (Place TractionReport)) (r : TractionReport) :
    giveBackChanged (Place.fresh place) r = true ↔ ¬ ∃ old, heldFresh place old ∧ old.giveBack = r.giveBack :=
  flag_iff_not_same (f := fun o => giveBackChanged o r) rfl (fun o => by simp [giveBackChanged]) place

theorem acceptanceChanged_iff (place : Option (Place PackReport)) (r : PackReport) :
    acceptanceChanged (Place.fresh place) r = true ↔ ¬ ∃ old, heldFresh place old ∧ old.aAcc = r.aAcc :=
  flag_iff_not_same (f := fun o => acceptanceChanged o r) rfl (fun o => by simp [acceptanceChanged]) place

theorem chargeMarkCrossed_iff (start stop : Nat) (place : Option (Place PackReport)) (r : PackReport) :
    chargeMarkCrossed start stop (Place.fresh place) r = true ↔
      ¬ ∃ old, heldFresh place old ∧ (old.soc < start ↔ r.soc < start) ∧ (old.soc < stop ↔ r.soc < stop) :=
  flag_iff_not_same (f := fun o => chargeMarkCrossed start stop o r) rfl (fun o => by
    rw [← crosses_eq_false, ← crosses_eq_false]
    cases e : crosses start o.soc r.soc <;> simp [chargeMarkCrossed, e]) place

theorem criticalMarkCrossed_iff (mark : Nat) (place : Option (Place PackReport)) (r : PackReport) :
    criticalMarkCrossed mark (Place.fresh place) r = true ↔
      ¬ ∃ old, heldFresh place old ∧ (old.soc < mark ↔ r.soc < mark) :=
  flag_iff_not_same (f := fun o => criticalMarkCrossed mark o r) rfl (fun o => by
    rw [← crosses_eq_false]
    simp [criticalMarkCrossed]) place

theorem tractionRose_iff (rise : Nat) (place : Option (Place TractionReport)) (r : TractionReport) :
    tractionRose rise (Place.fresh place) r = true ↔ ∃ old, heldFresh place old ∧ old.pReq + rise ≤ r.pReq :=
  flag_iff_moved (f := fun o => tractionRose rise o r) rfl (fun _ => decide_eq_true_iff) place

theorem brakeReleased_iff (place : Option (Place BrakeDemand)) (r : BrakeDemand) :
    brakeReleased (Place.fresh place) r = true ↔ r.d = 0 ∧ ∃ old, heldFresh place old ∧ old.d ≠ 0 := by
  by_cases still : r.d = 0
  · simp only [still, true_and]
    exact flag_iff_moved (f := fun o => brakeReleased o r) rfl (fun o => by simp [brakeReleased, still]) place
  · simp only [still, false_and, iff_false]
    cases Place.fresh place <;> simp [brakeReleased, still]

theorem abs3Set_iff (place : Option (Place BrakeDemand)) (r : BrakeDemand) :
    abs3Set (Place.fresh place) r = true ↔ r.abs3 = true ∧ ¬ ∃ old, heldFresh place old ∧ old.abs3 = true := by
  by_cases on : r.abs3 = true
  · simp only [on, true_and]
    exact flag_iff_not_same (f := fun o => abs3Set o r) (by simp [abs3Set, on]) (fun o => by simp [abs3Set, on]) place
  · simp [abs3Set, on]

/-- The interval of the battery hand-off: the time since the report replaced, at most 500 ms (R16). -/
theorem packInterval_fresh {now n : Nat} (old : PackReport) (h : n ≤ now) (small : now < 4294967296) :
    packInterval now (some ⟨old, n, false⟩) = min 500 (now - n) := by
  simp only [packInterval, elapsed, wrapMs, Bool.false_eq_true, ↓reduceIte]
  omega

theorem packInterval_absent {now : Nat} {place : Option (Place PackReport)} (h : ¬ ∃ old, heldFresh place old) :
    packInterval now place = 0 := by
  rcases place with _ | ⟨content, arrival, _ | _⟩
  · rfl
  · exact absurd ⟨content, arrival, rfl⟩ h
  · rfl

/-- Settles O5: each signal is raised by its comparison with the report replaced. -/
theorem reportsRaiseTheirSignals : Obligations.ReportsRaiseTheirSignals := by
  refine ⟨fun r s => ?_, fun r s => ?_, fun r s => ?_, fun r s => ?_⟩
  · exact ⟨_, storeTraction r,
      { ChangeSet.none with
        basis := basisChanged s.settings.hysteresis s.view.reference (storeTraction r)
        giveBack := giveBackChanged (Place.fresh s.view.traction) (storeTraction r) },
      tractionRose s.settings.activityRise (Place.fresh s.view.traction) (storeTraction r), rfl,
      congrArg View.traction (State.raiseIf_view ..), (State.raiseIf_signals ..).trans (List.append_assoc ..),
      rfl, rfl, rfl, basisChanged_iff .., giveBackChanged_iff .., tractionRose_iff .., within_of_exec (c := .tractionReport r) rfl⟩
  · refine ⟨_, storePack r,
      { ChangeSet.none with
        acceptance := acceptanceChanged (Place.fresh s.view.pack) (storePack r)
        chargeMark := chargeMarkCrossed s.settings.chargeStart s.settings.chargeStop (Place.fresh s.view.pack) (storePack r) },
      criticalMarkCrossed s.settings.criticalMark (Place.fresh s.view.pack) (storePack r), packInterval s.ms s.view.pack, rfl,
      ?_, ?_, rfl, rfl, rfl, acceptanceChanged_iff .., chargeMarkCrossed_iff .., criticalMarkCrossed_iff .., ?_,
      packInterval_absent, within_of_exec (c := .packReport r) rfl⟩
    · exact congrArg View.pack (State.raiseIf_view ..)
    · simp only [State.raise_signals, State.raiseIf_signals, State.answer_signals, List.append_assoc, List.singleton_append]
    · intro old n e earlier small
      rw [e]
      exact packInterval_fresh old earlier small
  · exact ⟨_, storeGenset r, rfl, rfl, rfl, within_of_exec (c := .gensetReport r) rfl⟩
  · refine ⟨_, storeBrake r, brakeReleased (Place.fresh s.view.brake) (storeBrake r),
      abs3Set (Place.fresh s.view.brake) (storeBrake r), rfl, ?_, ?_, brakeReleased_iff .., abs3Set_iff ..,
      within_of_exec (c := .brakeDemand r) rfl⟩
    · exact congrArg View.brake ((State.raiseIf_view ..).trans (State.raiseIf_view ..))
    · simp only [State.raiseIf_signals, State.answer_signals]

/-! ### Offer lists (R6, R7) -/

theorem offerClamped_iff (sup : Supplier) (e : RawOffer) :
    offerClamped sup e = true ↔ 1023 < e.power ∨ 15 < e.cost ∨
      (e.peak = true ∧ (sup = .genset ∨ e.duration = 0 ∨ 600 < e.duration)) := by
  have power : clampNat 0 1023 e.power ≠ e.power ↔ 1023 < e.power := by rw [clampNat_zero]; omega
  have cost : clampNat 0 15 e.cost ≠ e.cost ↔ 15 < e.cost := by rw [clampNat_zero]; omega
  have duration : clampNat 1 600 e.duration ≠ e.duration ↔ e.duration = 0 ∨ 600 < e.duration := by
    rw [clampNat_eq (by decide)]; omega
  cases sup <;> simp only [offerClamped, Bool.or_eq_true, Bool.and_eq_true, decide_eq_true_eq, power, cost, duration, or_assoc] <;> simp

theorem storeOffer_fields (sup : Supplier) (e : RawOffer) :
    (storeOffer sup e).power = min e.power 1023 ∧ (storeOffer sup e).cost = min e.cost 15 ∧ (storeOffer sup e).quiet = e.quiet ∧
      (storeOffer sup e).excluded = false ∧ (storeOffer sup e).expired = false ∧
      (storeOffer sup e).duration = if e.peak = true ∧ sup = .pack then some (max 1 (min 600 e.duration)) else none := by
  refine ⟨?_, ?_, rfl, rfl, rfl, ?_⟩
  · simp only [storeOffer, clampNat_zero, Nat.min_comm]
  · simp only [storeOffer, clampNat_zero, Nat.min_comm]
  · simp only [storeOffer, clampNat_eq (show 1 ≤ 600 by decide), Bool.and_eq_true, beq_iff_eq]

/-- Settles O6: by the count of the list. -/
theorem offerListReplacesTheListHeld : Obligations.OfferListReplacesTheListHeld := by
  intro sup es s
  by_cases count : 1 ≤ es.length ∧ es.length ≤ 6
  · have ran : exec (.offerList sup es) s = .next (((s.storeOffers sup es).answer sup.port (.offerList sup es) 0x14 .done
        (es.any (offerClamped sup))).raise (.arrivalNotice (listKind sup) { ChangeSet.none with offers := true })) := if_pos count
    refine ⟨_, ran, within_of_exec ran, fun out => by omega, fun _ _ => ⟨es.map (storeOffer sup), es.any (offerClamped sup),
      List.length_map .., ?_, ?_, ?_, ?_, ?_⟩⟩
    · cases sup <;> rfl
    · intro i e o he ho
      rw [List.getElem?_map, he] at ho
      cases ho
      exact storeOffer_fields sup e
    · simp only [List.any_eq_true, offerClamped_iff]
    · exact State.answered_of_ports (u := s.storeOffers sup es) (by cases sup <;> rfl) rfl
    · cases sup <;> rfl
  · have ran : exec (.offerList sup es) s = .next (s.answer sup.port (.offerList sup es) 0x14 (.refused .badCount) false) :=
      if_neg count
    exact ⟨_, ran, within_of_exec ran, fun _ => ⟨rfl, rfl, State.answer_answered ..⟩, fun low high => absurd ⟨low, high⟩ count⟩

/-- Settles O7: by the state the port has now. -/
theorem portStateMovesThePlaces : Obligations.PortStateMovesThePlaces := by
  intro p now s
  cases now with
  | up => exact ⟨_, rfl, within_of_exec (c := .portStateView p .up) rfl, rfl, fun _ => rfl, nofun, nofun⟩
  | lost => exact ⟨_, rfl, within_of_exec (c := .portStateView p .lost) rfl, rfl, nofun, fun _ => by cases p <;> rfl, nofun⟩
  | down => exact ⟨_, rfl, within_of_exec (c := .portStateView p .down) rfl, rfl, nofun, nofun, fun _ => by cases p <;> rfl⟩

end Sys2Proof.Machine

/-! ## The candidates of a run and their figures (R26, R27) -/

namespace Sys2Proof.Machine

theorem usableStorage_iff {o : Offer} {quiet : Bool} :
    o.usableStorage quiet = true ↔ o.excluded = false ∧ o.expired = false ∧ (quiet = true → o.quiet = true) := by
  cases quiet <;> simp [Offer.usableStorage, Offer.standsIn]

theorem usableGenset_iff {o : Offer} {quiet : Bool} :
    o.usableGenset quiet = true ↔ o.excluded = false ∧ (quiet = true → o.quiet = true) := by
  cases quiet <;> simp [Offer.usableGenset]

theorem ite_pos_eq (n a : Nat) : (if 0 < n then a else 0) = if n = 0 then 0 else a := by
  simp only [Nat.pos_iff_ne_zero, ite_not]

/-- R27's figures of a storage offer alone name one candidate. -/
theorem eq_alone_iff {x : Inputs} {i : Nat} {o : Offer} {c : Candidate} :
    c = x.alone i o ↔
      c.storageIndex = i ∧ c.eff = o.power * (100 - x.derate) / 100 ∧ c.duration = o.duration ∧ c.gensetIndex = none ∧
        c.gPower = 0 ∧ c.mode = .electric ∧ c.aux = x.aux.electric ∧ c.share = x.req + c.aux ∧ c.commitment = 0 ∧ c.charge = 0 ∧
        (c.covered = true ↔ c.share ≤ c.eff) ∧ c.cost = if 0 < c.share then o.cost else 0 := by
  constructor
  · rintro rfl
    refine ⟨rfl, rfl, rfl, rfl, rfl, rfl, rfl, rfl, rfl, rfl, by simp [Inputs.alone], ?_⟩
    exact (ite_pos_eq _ _).symm
  · obtain ⟨storageIndex, eff, duration, gensetIndex, gPower, mode, aux, share, commitment, charge, covered, cost⟩ := c
    dsimp only
    rintro ⟨rfl, rfl, rfl, rfl, rfl, rfl, rfl, rfl, rfl, rfl, covers, isCost⟩
    obtain rfl : cost = if 0 < x.req + x.aux.electric then o.cost else 0 := isCost
    have : covered = decide (x.req + x.aux.electric ≤ derated x.derate o.power) := by rw [Bool.eq_iff_iff, decide_eq_true_iff]; exact covers
    rw [this, ite_pos_eq]
    rfl

theorem auxOf_paired (x : Inputs) :
    x.aux.get (candidateMode x.req true) = if 0 < x.req then x.aux.hybrid else x.aux.charge := by
  by_cases e : x.req = 0 <;> simp [candidateMode, e, PerMode.get, Nat.pos_iff_ne_zero]

/-- R27's figures of a storage offer with a genset offer name one candidate. -/
theorem eq_paired_iff {x : Inputs} {i j : Nat} {o g : Offer} {c : Candidate} :
    c = x.paired i o j g ↔
      c.storageIndex = i ∧ c.eff = o.power * (100 - x.derate) / 100 ∧ c.duration = o.duration ∧ c.gensetIndex = some j ∧
        c.gPower = g.power ∧ c.mode = (if 0 < x.req then .hybrid else .charge) ∧
        c.aux = (if 0 < x.req then x.aux.hybrid else x.aux.charge) ∧
        c.cost = min 15 (g.cost + x.penalty) + (if 0 < c.share then o.cost else 0) ∧
        ((x.req + c.aux ≤ g.power ∧ c.share = 0 ∧ c.charge = min x.chargeTarget (g.power - (x.req + c.aux)) ∧
            c.commitment = x.req + c.aux + c.charge ∧ c.covered = true) ∨
          (g.power < x.req + c.aux ∧ c.share = x.req + c.aux - g.power ∧ c.charge = 0 ∧ c.commitment = g.power ∧
            (c.covered = true ↔ c.share ≤ c.eff))) := by
  have modeOf : candidateMode x.req true = if 0 < x.req then .hybrid else .charge := by
    simp only [candidateMode, if_true, Nat.pos_iff_ne_zero, ite_not]
  constructor
  · rintro rfl
    refine ⟨rfl, rfl, rfl, rfl, rfl, modeOf, auxOf_paired x, ?_, ?_⟩
    · exact congrArg (_ + ·) (ite_pos_eq _ _).symm
    · by_cases carries : x.req + x.aux.get (candidateMode x.req true) ≤ g.power
      · exact .inl ⟨carries, Nat.sub_eq_zero_of_le carries, by simp [Inputs.paired, carries], by simp [Inputs.paired, carries],
          by simp [Inputs.paired, Nat.sub_eq_zero_of_le carries]⟩
      · exact .inr ⟨by simpa [Inputs.paired] using carries, rfl, by simp [Inputs.paired, carries], by simp [Inputs.paired, carries],
          by simp [Inputs.paired]⟩
  · obtain ⟨storageIndex, eff, duration, gensetIndex, gPower, mode, aux, share, commitment, charge, covered, cost⟩ := c
    dsimp only
    rintro ⟨rfl, rfl, rfl, rfl, rfl, isMode, isAux, isCost, figures⟩
    obtain rfl : cost = min 15 (g.cost + x.penalty) + if 0 < share then o.cost else 0 := isCost
    rw [← modeOf] at isMode
    rw [← auxOf_paired] at isAux
    rw [ite_pos_eq]
    subst isMode isAux
    rcases figures with ⟨carries, rfl, rfl, rfl, rfl⟩ | ⟨short, rfl, rfl, rfl, covers⟩
    · simp [Inputs.paired, derated, gensetCost, carries, Nat.sub_eq_zero_of_le carries]
    · have exceeds : ¬ x.req + x.aux.get (candidateMode x.req true) ≤ g.power := by omega
      have : covered = decide (x.req + x.aux.get (candidateMode x.req true) - g.power ≤ derated x.derate o.power) := by
        rw [Bool.eq_iff_iff, decide_eq_true_iff]; exact covers
      simp only [Inputs.paired, exceeds, if_false, this, gensetCost, derated]

/-- Settles O8: the members of the list, each with the figures that name it. -/
theorem candidatesAndTheirFigures : Obligations.CandidatesAndTheirFigures := by
  intro x online c
  dsimp only
  rw [mem_candidates]
  simp only [usableStorage_iff, usableGenset_iff, eq_alone_iff, eq_paired_iff, ← Inputs.chargeTarget.eq_1]
  constructor
  · rintro ⟨i, o, at_, ⟨excluded, expired, quiet⟩, h⟩
    rcases h with ⟨index, eff, duration, alone⟩ | ⟨on, j, g, gAt, ⟨gExcluded, gQuiet⟩, ⟨index, eff, duration, gIndex, gPower, mode, aux, cost, figures⟩, formed⟩
    · exact ⟨i, o, at_, excluded, expired, quiet, index, eff, duration, .inl alone⟩
    · exact ⟨i, o, at_, excluded, expired, quiet, index, eff, duration,
        .inr ⟨j, g, on, gAt, gExcluded, gQuiet, gIndex, gPower, mode, aux, cost, formed, figures⟩⟩
  · rintro ⟨i, o, at_, excluded, expired, quiet, index, eff, duration, h⟩
    refine ⟨i, o, at_, ⟨excluded, expired, quiet⟩, ?_⟩
    rcases h with alone | ⟨j, g, on, gAt, gExcluded, gQuiet, gIndex, gPower, mode, aux, cost, formed, figures⟩
    · exact .inl ⟨index, eff, duration, alone⟩
    · exact .inr ⟨on, j, g, gAt, ⟨gExcluded, gQuiet⟩, ⟨index, eff, duration, gIndex, gPower, mode, aux, cost, figures⟩, formed⟩

end Sys2Proof.Machine

/-! ## The partner ports (chapter 10): exchanges, frames, notices, silence, status and resets -/

namespace Sys2Proof.Machine

/-! ### Notices (R153) -/

theorem mem_enqueue (q : List Notice) (n : Notice) : n ∈ enqueue q n := by
  unfold enqueue
  split
  · next h =>
    obtain ⟨m, hm, e⟩ := List.any_eq_true.1 h
    exact List.mem_map.2 ⟨m, hm, if_pos e⟩
  · simp

/-- A notice of a class that no notice waiting has joins the tail. -/
theorem enqueue_new {q : List Notice} {n : Notice} (h : ∀ m ∈ q, m.cls ≠ n.cls) : enqueue q n = q ++ [n] := by
  unfold enqueue
  rw [if_neg]
  rw [List.any_eq_true]
  rintro ⟨m, hm, e⟩
  exact h m hm (beq_iff_eq.1 e)

/-- A notice takes the place of the one of its class, and every other keeps its place. -/
theorem enqueue_replaces {q : List Notice} {n : Notice} (h : ∃ m ∈ q, m.cls = n.cls) :
    enqueue q n = q.map fun x => if x.cls = n.cls then n else x := by
  unfold enqueue
  rw [if_pos]
  · simp only [beq_iff_eq]
  · obtain ⟨m, hm, e⟩ := h
    exact List.any_eq_true.2 ⟨m, hm, beq_iff_eq.2 e⟩

/-- Notices of different classes: at most one of each of the three. -/
theorem length_le_of_classes {q : List Notice} (h : (q.map Notice.cls).Nodup) : q.length ≤ 3 := by
  have sub : q.map Notice.cls ⊆ [.contract, .command, .warning] := fun c _ => by cases c <;> simp
  simpa using (h.subperm sub).length_le

theorem admits_eq_true {state : PortState} {c : NoticeClass} :
    admits state c = true ↔ state = .up ∨ (state = .lost ∧ c = .contract) := by
  cases state <;> cases c <;> simp [admits]

/-- A notice a port does not take leaves it as it was. -/
theorem PartnerPort.submit_refused {pp : PartnerPort} {n : Notice} (h : ¬ (pp.state = .up ∨ (pp.state = .lost ∧ n.cls = .contract))) :
    pp.submit n = pp := by
  rw [← admits_eq_true] at h
  exact if_neg h

theorem PartnerPort.submit_queue {pp : PartnerPort} {n : Notice} (h : pp.state = .up ∨ (pp.state = .lost ∧ n.cls = .contract)) :
    (pp.submit n).queue = enqueue pp.queue n := by
  rw [← admits_eq_true] at h
  rw [PartnerPort.submit, if_pos h]

/-- A notice changes the queue and the exchange's mark alone. -/
theorem PartnerPort.submit_eq (pp : PartnerPort) (n : Notice) :
    pp.submit n = { pp with queue := (pp.submit n).queue, exchange := (pp.submit n).exchange } := by
  unfold PartnerPort.submit
  split <;> rfl

/-- Settles O22: by whether the port takes the notice, and whether one of its class waits. -/
theorem noticesReplaceTheirClassInPlace : Obligations.NoticesReplaceTheirClassInPlace := by
  intro pp n lawful
  have kept := submit_lawful lawful n
  refine ⟨kept, length_le_of_classes kept, fun refused => PartnerPort.submit_refused ?_, fun taken => ?_⟩
  · rcases refused with down | ⟨lost, other⟩
    · simp [down]
    · simp [lost, other]
  · have queue := PartnerPort.submit_queue taken
    have waits : n ∈ (pp.submit n).queue := queue ▸ mem_enqueue pp.queue n
    refine ⟨waits, ?_, ?_, fun new => queue.trans (enqueue_new new), fun old => ?_⟩
    · rw [PartnerPort.submit_eq]
    · have : (pp.submit n).queue.isEmpty = false := List.isEmpty_eq_false_iff.2 (List.ne_nil_of_mem waits)
      simp [PartnerPort.attentionLow, this]
    · rw [queue, enqueue_replaces old]
      refine ⟨List.length_map .., fun k m h => ?_⟩
      rw [List.getElem?_map, h]
      rfl

/-! ### Frames (R148, R154) -/

theorem clocked_length (frame : List Byte) (n : Nat) : (clocked frame n).length = n := by
  simp [clocked]

theorem clocked_getElem? (frame : List Byte) {n i : Nat} (h : i < n) : (clocked frame n)[i]? = some (frame.getD i 0#8) := by
  unfold clocked
  rw [List.getElem?_take_of_lt h, List.getD_eq_getElem?_getD]
  by_cases inside : i < frame.length
  · rw [List.getElem?_append_left inside, List.getElem?_eq_getElem inside]
    rfl
  · rw [List.getElem?_append_right (by omega), List.getElem?_replicate, if_pos (by omega), List.getElem?_eq_none (by omega)]
    rfl

/-- The bytes clocked out of a frame are its own in order, and 0x00 after them. -/
theorem carries_clocked (frame : List Byte) (n : Nat) : carries (clocked frame n) frame n :=
  ⟨clocked_length frame n, fun _ h => clocked_getElem? frame h⟩

theorem PartnerPort.choose_reply {pp : PartnerPort} {r : Reply} (h : pp.slot = .reply r) (gate : Gate) :
    pp.choose gate = ⟨r.frame pp.overrun, .reply, pp.overrun, true⟩ := by
  simp [PartnerPort.choose, h]

theorem PartnerPort.choose_notice {pp : PartnerPort} (h : ∀ r, pp.slot ≠ .reply r) (gate : Gate) :
    pp.choose gate = pp.chooseNotice gate := by
  unfold PartnerPort.choose
  split
  · next r e => exact absurd e (h r)
  · rfl
  · rfl

theorem chooseNotice_overrun (pp : PartnerPort) (gate : Gate) : (pp.chooseNotice gate).overrun = false := by
  unfold PartnerPort.chooseNotice
  split <;> rfl

theorem choose_intact (pp : PartnerPort) (gate : Gate) : (pp.choose gate).intact = true := by
  unfold PartnerPort.choose PartnerPort.chooseNotice
  repeat' split
  all_goals rfl

theorem selectFalls_port {s : State} {p : Port} (h : (s.port p).exchange = none) :
    (s.selectFalls p).port p = { s.port p with exchange := some ((s.port p).choose s.cu.gate) } := by
  rw [State.selectFalls, State.onPort_port_self]
  simp [h]

theorem le16_eq_twoBytes (n : Nat) : le16 n = twoBytes n := by
  simp only [le16, twoBytes, List.cons.injEq, and_true]
  refine ⟨?_, ?_⟩ <;> rw [← BitVec.toNat_inj] <;> simp only [BitVec.toNat_ofNat] <;> omega

/-- The byte of mode, mismatch, reduction and peak, bit by bit. -/
theorem termsFlags_eq (t : Terms) :
    modeCode t.mode % 4 + (if t.mismatch.isSome then 4 else 0) + (if t.reduced then 8 else 0) + (if t.peak.isSome then 16 else 0) +
        32 * mismatchBits t.mismatch =
      (match t.mode with | .electric => 0 | .hybrid => 1 | .charge => 2 | .safe => 3) +
        (match t.mismatch with | none => 0 | some .shortSupply => 4 + 32 * 1 | some .belowMinimum => 4 + 32 * 2) +
        (if t.reduced then 8 else 0) + (match t.peak with | some _ => 16 | none => 0) := by
  have mode : modeCode t.mode % 4 = match t.mode with | .electric => 0 | .hybrid => 1 | .charge => 2 | .safe => 3 := by
    cases t.mode <;> rfl
  have mismatch : (match t.mismatch with | none => 0 | some .shortSupply => 4 + 32 * 1 | some .belowMinimum => 4 + 32 * 2) =
      (if t.mismatch.isSome then 4 else 0) + 32 * mismatchBits t.mismatch := by
    rcases t.mismatch with _ | _ | _ <;> rfl
  have peak : (match t.peak with | some _ => 16 | none => 0) = if t.peak.isSome then 16 else 0 := by cases t.peak <;> rfl
  omega

theorem contractPayload_eq (n : Nat) (t : Terms) : contractPayload n t = termsBytes n t := by
  simp only [contractPayload, termsBytes, le16_eq_twoBytes, termsFlags_eq]
  cases t.gensetIndex <;> cases t.peak <;> rfl

theorem notice_frame (n : Notice) : n.frame = envelope (noticeBytes n).1 (noticeBytes n).2 := by
  cases n with
  | contractOffer n t => exact congrArg (envelope 0x40) (contractPayload_eq n t)
  | contractActive n t => exact congrArg (envelope 0x41) (contractPayload_eq n t)
  | contractRevised n t => exact congrArg (envelope 0x42) (contractPayload_eq n t)
  | contractWithdrawn n => rfl
  | contractDropped n r => cases r <;> rfl
  | regenCommand r d => simp only [Notice.frame, noticeBytes, le16_eq_twoBytes]
  | frictionCommand c => simp only [Notice.frame, noticeBytes, frictionPayload, le16_eq_twoBytes]
  | gensetCommand c i kw =>
    simp only [Notice.frame, noticeBytes, le16_eq_twoBytes]
    cases c <;> cases i <;> rfl
  | warning code set => rfl

theorem notice_class (n : Notice) :
    n.cls = if (noticeBytes n).1 ≤ 0x44 then .contract else if (noticeBytes n).1 ≤ 0x52 then .command else .warning := by
  cases n <;> rfl

theorem reply_frame (r : Reply) (overrun : Bool) : r.frame overrun = envelope (replyBytes overrun r).1 (replyBytes overrun r).2 := by
  cases r with
  | answer kind outcome clamped content =>
    have flags : BitVec.ofNat 8 (flagByte [clamped, overrun]) = (if clamped then 1#8 else 0#8) + (if overrun then 2#8 else 0#8) := by
      cases clamped <;> cases overrun <;> rfl
    simp only [Reply.frame, replyBytes, flags]
    cases outcome with
    | refused r => cases r <;> rfl
    | done => rfl
    | stale => rfl
    | status => rfl
  | frameError cls =>
    have flags : BitVec.ofNat 8 (flagByte [false, overrun]) = if overrun then 2#8 else 0#8 := by cases overrun <;> rfl
    simp only [Reply.frame, replyBytes, flags]
    cases cls <;> rfl

theorem idleFrame_eq (p : PortState) (g : Gate) :
    idleFrame p g = envelope 0x7F
      [match p with | .down => 0#8 | .up => 1#8 | .lost => 2#8, match g with | .blocked => 0#8 | .opened => 1#8 | .safe => 2#8] := by
  cases p <;> cases g <;> rfl

/-- Settles O18: the choice by what waits, and each frame by its kind. -/
theorem frameIsChosenAtSelectFalling : Obligations.FrameIsChosenAtSelectFalling := by
  refine ⟨fun p s loaded high => ?_, fun n => ⟨notice_frame n, notice_class n⟩, reply_frame, fun _ _ => rfl, by decide⟩
  have ran : exec (.spiExchange p .selectFalls) s = .next (s.selectFalls p) := if_pos loaded
  refine ⟨_, (s.port p).choose s.cu.gate, ran, selectFalls_port high, fun q ne => State.onPort_port_other _ _ _ _ ne,
    choose_intact _ _, fun r h => ?_, fun h => ?_⟩
  · rw [PartnerPort.choose_reply h]
    exact ⟨rfl, rfl, rfl⟩
  · rw [PartnerPort.choose_notice h]
    refine ⟨chooseNotice_overrun _ _, fun n rest e => ?_, fun e => ?_⟩
    · simp [PartnerPort.chooseNotice, e]
    · simp only [PartnerPort.chooseNotice, e, true_and]
      exact idleFrame_eq _ _

/-! ### The frame disposed of (R151, R154) -/

theorem dispose_eq (pp : PartnerPort) (x : Exchange) (n : Nat) :
    pp.dispose x n = { pp with
      exchange := none, lastOut := clocked x.frame n, slot := (pp.dispose x n).slot, queue := (pp.dispose x n).queue,
      overrun := pp.overrun && !(decide (x.frame.length ≤ n) && x.overrun) } := by
  unfold PartnerPort.dispose
  dsimp only
  split
  · split <;> rfl
  · rfl

/-- A frame clocked out whole and unreplaced is removed. -/
theorem dispose_whole {pp : PartnerPort} {x : Exchange} {n : Nat} (whole : x.frame.length ≤ n) (intact : x.intact = true) :
    (x.source = .idle → (pp.dispose x n).slot = pp.slot ∧ (pp.dispose x n).queue = pp.queue) ∧
      (x.source = .reply → (pp.dispose x n).queue = pp.queue ∧ ∀ r, pp.slot = .reply r → (pp.dispose x n).slot = .empty) ∧
      (∀ c, x.source = .notice c → (pp.dispose x n).slot = pp.slot ∧ (pp.dispose x n).queue = pp.queue.filter fun m => m.cls != c) := by
  refine ⟨fun e => ?_, fun e => ⟨?_, fun r h => ?_⟩, fun c e => ?_⟩ <;> simp [PartnerPort.dispose, whole, intact, e]
  rw [h]

/-- A frame cut short, or replaced while it went out, stays. -/
theorem dispose_kept {pp : PartnerPort} {x : Exchange} {n : Nat} (h : n < x.frame.length ∨ x.intact = false) :
    (pp.dispose x n).slot = pp.slot ∧ (pp.dispose x n).queue = pp.queue := by
  unfold PartnerPort.dispose
  dsimp only
  rw [if_neg]
  · exact ⟨rfl, rfl⟩
  · rcases h with short | replaced
    · simp [short]
    · simp [replaced]

theorem inbound_zeros (s : State) (p : Port) {bytes : List Byte} (h : ∀ b ∈ bytes, b = 0#8) : s.inbound p bytes = s := by
  unfold State.inbound
  rw [if_pos (List.all_eq_true.2 fun b hb => beq_iff_eq.2 (h b hb))]

/-- Settles O19: with nothing sent in, a rise is the disposal of the chosen frame. -/
theorem frameIsRemovedWhenClockedOutWhole : Obligations.FrameIsRemovedWhenClockedOutWhole := by
  intro p n x s loaded low
  have rises : s.selectRises p (List.replicate n 0#8) = s.onPort p fun pp => pp.dispose x n := by
    simp only [State.selectRises, low, List.length_replicate]
    exact inbound_zeros _ _ fun b hb => List.eq_of_mem_replicate hb
  have ran : exec (.spiExchange p (.selectRises (List.replicate n 0#8))) s = .next (s.onPort p fun pp => pp.dispose x n) := by
    rw [← rises]
    exact if_pos loaded
  have port := State.onPort_port_self s p fun pp => pp.dispose x n
  have shape := dispose_eq (s.port p) x n
  refine ⟨_, ran, (within_onPort s p fun h => dispose_lawful h x n).1, fun q ne => State.onPort_port_other _ _ _ _ ne, ?_⟩
  rw [port]
  refine ⟨?_, ?_, ?_, fun whole intact => ?_, dispose_kept, ?_⟩
  · rw [shape]
  · rw [shape]
    exact clocked_length _ _
  · rw [shape]
    exact fun i h => clocked_getElem? _ h
  · obtain ⟨idle, reply, notice⟩ := dispose_whole (pp := s.port p) whole intact
    refine ⟨idle, reply, fun c e => ?_⟩
    obtain ⟨slot, queue⟩ := notice c e
    exact ⟨slot, fun m => by rw [queue]; simp⟩
  · rw [shape]
    simp

/-! ### Port states (R156, R157) -/

/-- The signals by which a change of a port's state is handed to the blocks that act on it (R157). -/
def changeSignals (p : Port) (was now : PortState) : List Instr :=
  (if now != PortState.up then [.portStateView p now] else []) ++
    (match p with
      | .traction => [.portStateContract p now]
      | .pack => [.portStateContract p now]
      | .genset => if now != PortState.up then [.portStateContract p now] else []
      | .brake => []) ++
    (if (p == Port.genset || p == Port.brake) && was == PortState.down && now == PortState.up then [.latePortUpNotice p] else []) ++
    (if p == Port.genset then [.portStateSequencer now] else []) ++
    (if p == Port.brake || (p == Port.traction && now == PortState.up) then [.portStateBlend p now] else []) ++
    [.conditionLevelChange [.portLost p (now == PortState.lost)]]

theorem portChanged_signals (s : State) (p : Port) (was now : PortState) :
    (s.portChanged p was now).signals = s.signals ++ changeSignals p was now := by
  cases p <;> simp only [State.portChanged, changeSignals, State.raise_signals, State.raiseIf_signals, List.append_assoc,
    List.append_nil]

@[simp] theorem portChanged_ports (s : State) (p : Port) (was now : PortState) : (s.portChanged p was now).ports = s.ports :=
  (within_portChanged s p was now).1 .ports (by decide)

/-- Settles O23: by whether the port is UP with its timer running. -/
theorem silenceMakesThePortLost : Obligations.SilenceMakesThePortLost := by
  intro p s
  have running : (s.port p).silence ≠ .stopped ↔ (s.port p).silence.isRunning = true := by
    cases (s.port p).silence <;> simp [Timer.isRunning]
  by_cases expires : (s.port p).silence.isRunning ∧ s.isUp p
  · have ran : exec (.silenceTimerExpiry p) s =
        .next ((s.onPort p fun pp => { pp with state := .lost, silence := .stopped }).portChanged p .up .lost) := if_pos expires
    obtain ⟨runs, up⟩ := expires
    refine ⟨_, ran, within_of_exec ran, fun q ne => ?_, fun _ _ => ⟨?_, _, portChanged_signals .., ?_⟩, ?_⟩
    · rw [State.port_congr (portChanged_ports ..), State.onPort_port_other _ _ _ _ ne]
    · rw [State.port_congr (portChanged_ports ..), State.onPort_port_self]
    · cases p <;> simp [changeSignals]
    · rintro (stopped | notUp)
      · exact absurd stopped (running.2 runs)
      · exact absurd (beq_iff_eq.1 up) notUp
  · have ran : exec (.silenceTimerExpiry p) s = .next s := if_neg expires
    refine ⟨s, ran, within_of_exec ran, fun _ _ => rfl, fun runs up => ?_, fun _ => rfl⟩
    exact absurd ⟨running.1 runs, beq_iff_eq.2 up⟩ expires

/-! ### The inbound frame (R148 to R151, R156) -/

theorem fail_eq (pp : PartnerPort) (cls : FrameClass) :
    pp.fail cls = { pp with
      crcTally := if cls = .frameCrc then min 65535 (pp.crcTally + 1) else pp.crcTally
      lengthTally := if cls = .frameLength then min 65535 (pp.lengthTally + 1) else pp.lengthTally
      kindTally := if cls = .wrongKind then min 65535 (pp.kindTally + 1) else pp.kindTally
      slot := if pp.slot = .empty then .reply (.frameError cls) else pp.slot } := by
  by_cases free : pp.slot = .empty
  · cases cls <;> simp [PartnerPort.fail, PartnerPort.slotEmpty, free, tally]
  · cases cls <;> simp [PartnerPort.fail, PartnerPort.slotEmpty, free, tally]

theorem take_eq (pp : PartnerPort) (request : Option Instr) :
    pp.take request = { pp with
      slot := if pp.slot = .empty then
        (match request with | some i => .reserved i | none => .reply (.answer 0x01 .done false [])) else pp.slot
      overrun := if pp.slot = .empty then pp.overrun else true } := by
  by_cases free : pp.slot = .empty
  · cases request <;> simp [PartnerPort.take, PartnerPort.slotEmpty, free]
  · simp [PartnerPort.take, PartnerPort.slotEmpty, free]

theorem validFrame_port (s : State) (p : Port) (request : Option Instr) :
    (s.validFrame p request).port p =
      ({ s.port p with state := .up, silence := .running s.settings.silenceWindow } : PartnerPort).take request := by
  unfold State.validFrame
  dsimp only
  split
  · rw [State.onPort_port_self]
  · rw [State.port_congr (portChanged_ports ..), State.onPort_port_self]

theorem validFrame_signals (s : State) (p : Port) (request : Option Instr) :
    (s.validFrame p request).signals =
      s.signals ++ if (s.port p).state = .up then [] else changeSignals p (s.port p).state .up := by
  unfold State.validFrame
  dsimp only
  split
  · simp
  · exact portChanged_signals ..

theorem validFrame_other (s : State) (p : Port) (request : Option Instr) {q : Port} (ne : q ≠ p) :
    (s.validFrame p request).port q = s.port q := by
  unfold State.validFrame
  dsimp only
  split
  · exact State.onPort_port_other _ _ _ _ ne
  · rw [State.port_congr (portChanged_ports ..), State.onPort_port_other _ _ _ _ ne]

theorem inbound_other (s : State) (p : Port) (bytes : List Byte) {q : Port} (ne : q ≠ p) : (s.inbound p bytes).port q = s.port q := by
  unfold State.inbound
  split
  · rfl
  · split
    · exact State.onPort_port_other _ _ _ _ ne
    · exact validFrame_other _ _ _ ne

/-- Inbound bytes that carry a frame are checked; one that fails is tallied. -/
theorem inbound_error (s : State) (p : Port) {bytes : List Byte} (h : ∃ b ∈ bytes, b ≠ 0#8) {cls : FrameClass}
    (failed : checkFrame (partnerLength p) bytes = .error cls) : s.inbound p bytes = s.onPort p fun pp => pp.fail cls := by
  have carriesFrame : ¬ bytes.all (fun b => b == 0#8) = true := by
    obtain ⟨b, mem, ne⟩ := h
    rw [List.all_eq_true]
    exact fun all => ne (beq_iff_eq.1 (all b mem))
  simp only [State.inbound, carriesFrame, failed]
  rfl

theorem inbound_ok (s : State) (p : Port) {bytes : List Byte} (h : ∃ b ∈ bytes, b ≠ 0#8) {kind : Nat} {payload : List Byte}
    (passed : checkFrame (partnerLength p) bytes = .ok (kind, payload)) :
    s.inbound p bytes = s.validFrame p (decodePartner p kind payload) := by
  have carriesFrame : ¬ bytes.all (fun b => b == 0#8) = true := by
    obtain ⟨b, mem, ne⟩ := h
    rw [List.all_eq_true]
    exact fun all => ne (beq_iff_eq.1 (all b mem))
  simp only [State.inbound, carriesFrame, passed]
  rfl

/-- A whole exchange: the frame chosen is clocked out, and then the inbound bytes are taken. -/
theorem whole_eq {s : State} {p : Port} (high : (s.port p).exchange = none) (bytes : List Byte) :
    ∃ m : State, (s.selectFalls p).selectRises p bytes = m.inbound p bytes ∧ Within [.ports] s m ∧ (∀ q, q ≠ p → m.port q = s.port q) ∧
      m.port p = ({ s.port p with exchange := some ((s.port p).choose s.cu.gate) } : PartnerPort).dispose
        ((s.port p).choose s.cu.gate) bytes.length := by
  have falls := selectFalls_port high
  refine ⟨(s.selectFalls p).onPort p fun pp => pp.dispose ((s.port p).choose s.cu.gate) bytes.length, ?_, ?_, fun q ne => ?_, ?_⟩
  · simp only [State.selectRises, falls]
  · exact fun r hr => by cases r <;> first | rfl | exact absurd (by decide) hr
  · rw [State.onPort_port_other _ _ _ _ ne]
    exact State.onPort_port_other _ _ _ _ ne
  · rw [State.onPort_port_self, falls]

/-- The slot after the frame chosen has gone out: empty if it was, or if its reply was clocked out whole; else as it was. -/
theorem slot_after_exchange (pp : PartnerPort) (gate : Gate) (n : Nat) (e : Option Exchange) :
    let after := ({ pp with exchange := e } : PartnerPort).dispose (pp.choose gate) n
    let whole := ∃ r, pp.slot = .reply r ∧ (r.frame pp.overrun).length ≤ n
    (whole → after.slot = .empty) ∧ (¬ whole → after.slot = pp.slot) := by
  dsimp only
  have intact := choose_intact pp gate
  by_cases waits : ∃ r, pp.slot = .reply r
  · obtain ⟨r, slot⟩ := waits
    have frame := PartnerPort.choose_reply slot gate
    by_cases whole : (r.frame pp.overrun).length ≤ n
    · obtain ⟨-, reply, -⟩ := dispose_whole (pp := { pp with exchange := e }) (x := pp.choose gate) (n := n)
        (by rw [frame]; exact whole) intact
      obtain ⟨-, empties⟩ := reply (by rw [frame])
      exact ⟨fun _ => empties r slot, fun h => absurd ⟨r, slot, whole⟩ h⟩
    · obtain ⟨kept, -⟩ := dispose_kept (pp := { pp with exchange := e }) (x := pp.choose gate) (n := n)
        (.inl (by rw [frame]; exact Nat.lt_of_not_le whole))
      refine ⟨?_, fun _ => kept⟩
      rintro ⟨r', h, short⟩
      rw [slot] at h
      cases h
      exact absurd short whole
  · have none : ∀ r, pp.slot ≠ .reply r := fun r h => waits ⟨r, h⟩
    have frame := PartnerPort.choose_notice none gate
    refine ⟨fun ⟨r, h, _⟩ => absurd h (none r), fun _ => ?_⟩
    by_cases whole : (pp.choose gate).frame.length ≤ n
    · obtain ⟨idle, -, notice⟩ := dispose_whole (pp := { pp with exchange := e }) (x := pp.choose gate) (n := n) whole intact
      cases source : (pp.choose gate).source with
      | idle =>
        obtain ⟨kept, -⟩ := idle source
        exact kept
      | notice c =>
        obtain ⟨kept, -⟩ := notice c source
        exact kept
      | reply =>
        rw [frame, PartnerPort.chooseNotice] at source
        split at source <;> cases source
    · obtain ⟨kept, -⟩ := dispose_kept (pp := { pp with exchange := e }) (x := pp.choose gate) (n := n) (.inl (Nat.lt_of_not_le whole))
      exact kept

/-- The slot is free for a request: empty, or after its reply has gone out whole. -/
theorem free_iff (pp : PartnerPort) (n : Nat) (gate : Gate) (e : Option Exchange) :
    (({ pp with exchange := e } : PartnerPort).dispose (pp.choose gate) n).slot = .empty ↔
      pp.slot = .empty ∨ ∃ r, pp.slot = .reply r ∧ (r.frame pp.overrun).length ≤ n := by
  obtain ⟨empties, keeps⟩ := slot_after_exchange pp gate n e
  by_cases whole : ∃ r, pp.slot = .reply r ∧ (r.frame pp.overrun).length ≤ n
  · exact iff_of_true (empties whole) (.inr whole)
  · rw [keeps whole]
    exact ⟨.inl, fun h => h.resolve_right whole⟩

/-- With the slot not free the exchange leaves it as it was. -/
theorem slot_of_not_free {pp : PartnerPort} {n : Nat} (gate : Gate) (e : Option Exchange)
    (h : ¬ (pp.slot = .empty ∨ ∃ r, pp.slot = .reply r ∧ (r.frame pp.overrun).length ≤ n)) :
    (({ pp with exchange := e } : PartnerPort).dispose (pp.choose gate) n).slot = pp.slot := by
  obtain ⟨-, keeps⟩ := slot_after_exchange pp gate n e
  exact keeps fun whole => h (.inr whole)

/-- Settles O20: the exchange's frame is disposed of first, and the inbound bytes are then taken at the port it leaves. -/
theorem inboundFrameIsCheckedAndTaken : Obligations.InboundFrameIsCheckedAndTaken := by
  intro p bytes s loaded high
  have ran : exec (.spiExchange p (.whole bytes)) s = .next ((s.selectFalls p).selectRises p bytes) := if_pos loaded
  obtain ⟨m, rises, frame, other, port⟩ := whole_eq high bytes
  rw [rises] at ran
  have shape := dispose_eq ({ s.port p with exchange := some ((s.port p).choose s.cu.gate) } : PartnerPort)
    ((s.port p).choose s.cu.gate) bytes.length
  rw [← port] at shape
  have signals : m.signals = s.signals := frame .signals (by decide)
  have settings : m.settings = s.settings := frame .settings (by decide)
  have free := free_iff (s.port p) bytes.length s.cu.gate (some ((s.port p).choose s.cu.gate))
  have kept := slot_of_not_free (pp := s.port p) (n := bytes.length) s.cu.gate (some ((s.port p).choose s.cu.gate))
  rw [← port] at free kept
  refine ⟨_, ran, within_of_exec ran, fun q ne => (inbound_other _ _ _ ne).trans (other q ne), fun zeros => ?_, fun some => ?_⟩
  · rw [inbound_zeros m p zeros, shape]
    exact ⟨rfl, rfl, rfl, rfl, rfl, signals⟩
  · refine ⟨fun cls failed => ?_, fun kind payload passed => ?_⟩
    · rw [inbound_error m p some failed, State.onPort_port_self, fail_eq]
      dsimp only
      refine ⟨by rw [shape], by rw [shape], signals, by rw [shape], by rw [shape], by rw [shape], fun h => ?_, fun h => ?_⟩
      · rw [if_pos (free.2 h)]
      · rw [if_neg fun e => h (free.1 e), kept h]
    · rw [inbound_ok m p some passed, validFrame_port, take_eq, validFrame_signals]
      dsimp only
      have state : (m.port p).state = (s.port p).state := by rw [shape]
      rw [signals, settings, state]
      refine ⟨rfl, rfl, by rw [shape], by rw [shape], by rw [shape], fun h => ?_, fun h => ?_, fun up => ?_, fun down => ?_⟩
      · rw [if_pos (free.2 h)] <;> cases decodePartner p kind payload <;> rfl
      · rw [if_neg fun e => h (free.1 e), if_neg fun e => h (free.1 e), kept h]
        exact ⟨rfl, rfl⟩
      · rw [if_pos up, List.append_nil]
      · rw [if_neg down]
        refine ⟨?_, ?_, ?_, ?_, ?_, fun lost => ?_⟩
        · simp [changeSignals]
        · cases p <;> simp [changeSignals]
        · cases p <;> simp [changeSignals]
        · cases p <;> simp [changeSignals]
        · intro late was
          rw [was]
          rcases late with rfl | rfl <;> simp [changeSignals]
        · rw [lost]
          cases p <;> simp [changeSignals]

end Sys2Proof.Machine

/-! ## Status and resets of the ports, power-on, and the idle step -/

namespace Sys2Proof.Machine

/-! ### Status (R19, R158) -/

theorem placeStatus_eq {α : Type} (s : State) (x : Option (Place α)) : s.placeStatus x = s.placeBytes x := by
  rcases x with _ | ⟨content, arrival, held⟩
  · rfl
  · simp only [State.placeStatus, State.placeBytes, le16_eq_twoBytes]
    cases held <;> rfl

theorem listStatus_eq (list : Option (Place (List Offer))) : listStatus list = listBytes list := by
  cases list with
  | none => rfl
  | some l =>
    simp only [listStatus, listBytes, List.countP_eq_length_filter, ← Bool.or_eq_true, Bool.decide_eq_true]

theorem le16s_eq (i : Int) : le16s i = twoBytes (i % 65536).toNat := by
  rw [le16s, le16_eq_twoBytes]
  rfl

theorem portStatus_eq (s : State) (p : Port) :
    s.portStatus p = match p with
      | .traction => s.placeBytes s.view.traction ++
          twoBytes (match s.view.traction with | some x => (x.content.motorTemp % 65536).toNat | none => 0)
      | .pack => s.placeBytes s.view.pack ++ listBytes s.view.storage
      | .genset => s.placeBytes s.view.genset ++ listBytes s.view.gensetList ++
          [match s.gs.state with
            | .unknown => 0#8 | .stopped => 1#8 | .cranking => 2#8 | .resting => 3#8
            | .warming => 4#8 | .online => 5#8 | .cooldown => 6#8 | .lockedOut => 7#8]
      | .brake => s.placeBytes s.view.brake ++
          [match s.view.brake with | some x => (if x.content.parking then 1#8 else 0#8) | none => 0#8] := by
  cases p with
  | traction =>
    simp only [State.portStatus, placeStatus_eq, le16s_eq]
    cases s.view.traction <;> rfl
  | pack => simp only [State.portStatus, placeStatus_eq, listStatus_eq]
  | genset =>
    simp only [State.portStatus, placeStatus_eq, listStatus_eq]
    cases s.gs.state <;> rfl
  | brake =>
    simp only [State.portStatus, placeStatus_eq]
    cases s.view.brake with
    | none => rfl
    | some x => cases h : x.content.parking <;> simp [flagByte, h]

/-- The first five bytes of the status content (section 10-3). -/
theorem statusHead_eq (s : State) (p : Port) :
    [BitVec.ofNat 8 (portCode (s.port p).state), BitVec.ofNat 8 s.cu.gate.code, BitVec.ofNat 8 s.cu.activeNumber,
        BitVec.ofNat 8 s.cu.proposalNumber, BitVec.ofNat 8 (flagByte [(s.port p).overrun])] =
      [match (s.port p).state with | .down => 0#8 | .up => 1#8 | .lost => 2#8,
        match s.cu.gate with | .blocked => 0#8 | .opened => 1#8 | .safe => 2#8,
        BitVec.ofNat 8 (match s.cu.active with | some c => c.number | none => 0),
        BitVec.ofNat 8 (match s.cu.proposal with | some c => c.number | none => 0),
        if (s.port p).overrun then 1#8 else 0#8] := by
  refine List.cons_eq_cons.2 ⟨?_, List.cons_eq_cons.2 ⟨?_, List.cons_eq_cons.2 ⟨?_, List.cons_eq_cons.2 ⟨?_, ?_⟩⟩⟩⟩
  · cases (s.port p).state <;> rfl
  · cases s.cu.gate <;> rfl
  · unfold ContractUnit.activeNumber
    cases s.cu.active <;> rfl
  · unfold ContractUnit.proposalNumber
    cases s.cu.proposal <;> rfl
  · cases (s.port p).overrun <;> rfl

theorem State.answered.content {s t : State} {p : Port} {i : Instr} {k : Nat} {o : Answer} {b : Bool} {l m : List Byte}
    (h : s.answered t p i (.answer k o b l)) (e : l = m) : s.answered t p i (.answer k o b m) := e ▸ h

/-- Settles O24: the content byte by byte. -/
theorem statusQueryCarriesTheStatus : Obligations.StatusQueryCarriesTheStatus := by
  intro p s
  refine ⟨_, rfl, within_of_exec (c := .statusQuery p) rfl, ?_⟩
  refine State.answered.content (State.answer_answered s p _ _ _ _ (s.statusContent p)) ?_
  rw [State.statusContent, statusHead_eq, le16_eq_twoBytes, le16_eq_twoBytes, le16_eq_twoBytes, portStatus_eq] <;> cases p <;> rfl

/-! ### PORT_RESET and TALLY_CLEAR (R157, R163) -/

theorem Port.ofIndex_index (p : Port) : Port.ofIndex p.index = some p := by cases p <;> rfl

theorem resetPort_port (s : State) (p : Port) : (s.resetPort p).port p = (s.port p).portReset := by
  rw [State.resetPort, State.port_congr (portChanged_ports ..)]
  exact State.onPort_port_self ..

theorem resetPort_other (s : State) (p : Port) {q : Port} (ne : q ≠ p) : (s.resetPort p).port q = s.port q := by
  rw [State.resetPort, State.port_congr (portChanged_ports ..)]
  exact State.onPort_port_other _ _ _ _ ne

theorem resetPort_signals (s : State) (p : Port) :
    (s.resetPort p).signals = s.signals ++ changeSignals p (s.port p).state .down := portChanged_signals ..

@[simp] theorem portChanged_blend (s : State) (p : Port) (was now : PortState) : (s.portChanged p was now).blend = s.blend :=
  (within_portChanged s p was now).1 .blend (by decide)

@[simp] theorem portChanged_svc (s : State) (p : Port) (was now : PortState) : (s.portChanged p was now).svc = s.svc :=
  (within_portChanged s p was now).1 .svc (by decide)

theorem resetPort_blend (s : State) (p : Port) : (s.resetPort p).blend = s.blend.forget p := portChanged_blend ..

theorem resetPort_svc (s : State) (p : Port) : (s.resetPort p).svc = s.svc := portChanged_svc ..

/-- Settles O25: by whether the number names a port. -/
theorem portResetAndTallyClear : Obligations.PortResetAndTallyClear := by
  intro n s
  by_cases names : ∃ p : Port, p.index = n
  · obtain ⟨p, rfl⟩ := names
    have only : ∀ q : Port, q.index = p.index → q = p := by intro q h; cases p <;> cases q <;> simp [Port.index] at h ⊢
    have small : ¬ 3 < p.index := by cases p <;> decide
    have reset : exec (.portReset p.index) s = .next ((s.resetPort p).serviceDone (.portReset p.index) 0x67) := by
      simp only [exec, execPortReset, Port.ofIndex_index]
    have clear : exec (.tallyClear p.index) s =
        .next ((s.onPort p PartnerPort.clearTallies).serviceDone (.tallyClear p.index) 0x68) := by
      simp only [exec, execTallyClear, Port.ofIndex_index]
    refine ⟨⟨_, reset, fun h => absurd h small, fun q h => ?_⟩, ⟨_, clear, fun h => absurd h small, fun q h => ?_⟩⟩
    · rw [only q h]
      refine ⟨within_of_exec reset, fun q ne => resetPort_other s p ne, ?_⟩
      have port : ((s.resetPort p).serviceDone (.portReset p.index) 0x67).port p = (s.port p).portReset := resetPort_port s p
      have blend : ((s.resetPort p).serviceDone (.portReset p.index) 0x67).blend = s.blend.forget p := resetPort_blend s p
      have signals : ((s.resetPort p).serviceDone (.portReset p.index) 0x67).signals =
        s.signals ++ changeSignals p (s.port p).state .down := resetPort_signals s p
      rw [port, blend, signals]
      refine ⟨rfl, rfl, rfl, rfl, rfl, rfl, rfl, rfl, ?_, ?_, ?_, ?_, ?_, ?_, State.serviceDone_replies (resetPort_svc s p) _ _⟩
      · rintro rfl; rfl
      · rintro rfl; exact ⟨rfl, by simp [changeSignals]⟩
      all_goals cases p <;> simp [changeSignals]
    · rw [only q h]
      exact ⟨within_of_exec clear, fun q ne => State.onPort_port_other _ _ _ _ ne, State.onPort_port_self ..,
        State.serviceDone_replies rfl _ _⟩
  · have absent : Port.ofIndex n = none := by
      cases e : Port.ofIndex n with
      | none => rfl
      | some p =>
        refine absurd ⟨p, ?_⟩ names
        unfold Port.ofIndex at e
        split at e <;> cases e <;> rfl
    have reset : exec (.portReset n) s = .next (s.serviceAnswer (.portReset n) 0x67 (.refused .unknownItem)) := by
      simp only [exec, execPortReset, absent]
    have clear : exec (.tallyClear n) s = .next (s.serviceAnswer (.tallyClear n) 0x68 (.refused .unknownItem)) := by
      simp only [exec, execTallyClear, absent]
    exact ⟨⟨_, reset, fun _ => ⟨rfl, rfl, rfl, State.serviceAnswer_replies rfl _ _ _ _ _⟩, fun p h => absurd ⟨p, h⟩ names⟩,
      ⟨_, clear, fun _ => ⟨rfl, State.serviceAnswer_replies rfl _ _ _ _ _⟩, fun p h => absurd ⟨p, h⟩ names⟩⟩

/-! ### Power-on (R165, R167) -/

theorem not_check_ne (x y : BitVec 16) (h : x = y) : ~~~x ≠ y := by
  rintro rfl
  have := congrArg (·.getLsbD 0) h
  simp at this

/-- A region spoilt does not agree with its check word (R165). -/
theorem spoilSettings_bad (i : Image Settings) : settingsImageGood (spoilSettings i) = false := by
  unfold spoilSettings
  split
  · next good =>
    rw [← Bool.not_eq_true]
    simp only [settingsImageGood, beq_iff_eq] at good ⊢
    exact not_check_ne _ _ good
  · next bad => exact Bool.eq_false_iff.2 bad

theorem spoilWear_bad (i : Image WearContents) : wearImageGood (spoilWear i) = false := by
  unfold spoilWear
  split
  · next good =>
    rw [← Bool.not_eq_true]
    simp only [wearImageGood, beq_iff_eq] at good ⊢
    exact not_check_ne _ _ good
  · next bad => exact Bool.eq_false_iff.2 bad

/-- What power-on or RESET leaves in the store, by what it was writing (R165). -/
theorem interrupted_phase (t : Store) (cause : ResetCause) (n : Nat) :
    (t.interrupted cause n).phase = .idle ∧ (t.interrupted cause n).saveTimer = .stopped ∧
      (t.interrupted cause n).pendingSave = false := by
  unfold Store.interrupted
  dsimp only
  split <;> exact ⟨rfl, rfl, rfl⟩

theorem interrupted_settingsImage {t : Store} (h : ∀ x, t.phase ≠ .writingSettings x) (cause : ResetCause) (n : Nat) :
    (t.interrupted cause n).settingsImage = t.settingsImage := by
  unfold Store.interrupted
  dsimp only
  split
  case h_3 x e => exact absurd e (h x)
  case h_4 x e => exact absurd e (h x)
  all_goals rfl

theorem interrupted_wearImage {t : Store} (h : ∀ x, t.phase ≠ .writingWear x) (cause : ResetCause) (n : Nat) :
    (t.interrupted cause n).wearImage = t.wearImage := by
  unfold Store.interrupted
  dsimp only
  split
  case h_5 x e => exact absurd e (h x)
  case h_6 x e => exact absurd e (h x)
  all_goals rfl

/-- Settles O12: the state after reset with the key, the regions and the queue kept. -/
theorem powerOnStateOfEveryBlock : Obligations.PowerOnStateOfEveryBlock := by
  intro cause s
  obtain ⟨phase, saveTimer, pendingSave⟩ := interrupted_phase s.store cause s.freeCount
  refine ⟨_, rfl, rfl, rfl, fun p => ?_, ?_⟩
  · cases p <;> exact ⟨rfl, rfl, rfl, rfl, rfl, rfl, rfl, rfl, rfl⟩
  repeat refine ⟨rfl, ?_⟩
  refine ⟨phase, saveTimer, pendingSave, fun h => interrupted_settingsImage h _ _, fun h => interrupted_wearImage h _ _,
    fun x powerOn writing => ?_, fun x powerOn writing => ?_⟩
  · simp only [Store.interrupted, powerOn, writing]
    exact spoilSettings_bad _
  · simp only [Store.interrupted, powerOn, writing]
    exact spoilWear_bad _

/-- Settles O13: each unit's law holds of its state after power-on. -/
theorem resetStateIsLawful : Obligations.ResetStateIsLawful where
  rests := reset_sound.rests
  contract := reset_sound.lawful
  sequencer := Sequencer.reset_lawful
  aux := ⟨by decide, fun g => absurd rfl g⟩
  blend := ⟨Nat.zero_le _, Nat.zero_le _, rfl, rfl, rfl⟩
  wear := WearUnit.reset_lawful
  warnings := ⟨by decide, by decide⟩
  queues := fun p => by cases p <;> exact List.nodup_nil
  settings := Settings.default_lawful

/-! ### The idle step (log 1, 2, 27) -/

theorem Timer.due_iff {t : Timer} : t.due = true ↔ t = .running 0 := by
  rcases t with _ | (_ | n) | _ <;> simp [Timer.due]

/-- The expiry of one timer waits exactly while it runs with nothing left. -/
theorem mem_due {t : Timer} {c i : Instr} : c ∈ (if t.due then [i] else []) ↔ c = i ∧ t = .running 0 := by
  rw [← Timer.due_iff]
  cases t.due <;> simp

theorem Timer.tick_moved (t : Timer) : t.moved t.tick := by
  refine ⟨?_, fun h => ?_⟩
  · rintro n rfl
    rfl
  · rcases t with _ | (_ | n) | _
    · rfl
    · rfl
    · exact absurd rfl (h n)
    · rfl

theorem mem_heldRequests (s : State) (c : Instr) :
    c ∈ s.heldRequests ↔ (∃ p, (s.port p).slot = .reserved c) ∨ s.svc.inProcess = some c := by
  unfold State.heldRequests
  rw [List.mem_append, List.mem_filterMap, Option.mem_toList]
  refine or_congr_left ⟨?_, ?_⟩
  · rintro ⟨p, -, h⟩
    refine ⟨p, ?_⟩
    split at h
    · next i e => cases h; exact e
    · cases h
    · cases h
  · rintro ⟨p, e⟩
    exact ⟨p, by cases p <;> decide, by rw [e]⟩

theorem mem_dueExpiries (s : State) (c : Instr) :
    c ∈ s.dueExpiries ↔
      (∃ p, c = .silenceTimerExpiry p ∧ (s.port p).state = .up ∧ (s.port p).silence = .running 0) ∨
      (c = .acceptanceWindowExpiry ∧ s.cu.window = .running 0) ∨ (c = .roundRestExpiry ∧ s.cu.rest = .running 0) ∨
      (c = .peakExpiry ∧ s.cu.peak = .running 0) ∨ (c = .crankTimerExpiry ∧ s.gs.crank = .running 0) ∨
      (c = .restTimerExpiry ∧ s.gs.rest = .running 0) ∨ (c = .warmTimerExpiry ∧ s.gs.warm = .running 0) ∨
      (c = .idleOffExpiry ∧ s.gs.idleOff = .running 0) ∨ (c = .cooldownTimerExpiry ∧ s.gs.cooldown = .running 0) ∨
      (c = .blendTimerExpiry ∧ s.blend.timer = .running 0) ∨ (c = .coolingTimerExpiry ∧ s.wear.cooling = .running 0) ∨
      (c = .wearSaveTimerExpiry ∧ s.store.saveTimer = .running 0) ∨
      (c = .serviceReadHoldTimeout ∧ s.svc.hold ≠ none ∧ s.svc.holdTimer = .running 0) := by
  have ports : (c ∈ Port.all.flatMap fun p => if s.isUp p then
        (if (s.port p).silence.due then [Instr.silenceTimerExpiry p] else []) else []) ↔
      ∃ p, c = .silenceTimerExpiry p ∧ (s.port p).state = .up ∧ (s.port p).silence = .running 0 := by
    have up : ∀ p, s.isUp p = true ↔ (s.port p).state = .up := fun p => beq_iff_eq
    rw [List.mem_flatMap]
    constructor
    · rintro ⟨p, -, h⟩
      split at h
      · next isUp =>
        obtain ⟨e, due⟩ := mem_due.1 h
        exact ⟨p, e, (up p).1 isUp, due⟩
      · exact absurd h (List.not_mem_nil)
    · rintro ⟨p, e, isUp, due⟩
      exact ⟨p, by cases p <;> decide, by rw [if_pos ((up p).2 isUp)]; exact mem_due.2 ⟨e, due⟩⟩
  have service : (c ∈ if s.svc.hold.isSome then (if s.svc.holdTimer.due then [Instr.serviceReadHoldTimeout] else []) else []) ↔
      c = .serviceReadHoldTimeout ∧ s.svc.hold ≠ none ∧ s.svc.holdTimer = .running 0 := by
    rw [← Option.isSome_iff_ne_none]
    split
    · next held => rw [mem_due]; simp [held]
    · next free => simp [free]
  unfold State.dueExpiries
  simp only [List.mem_append, ports, service, mem_due, or_assoc]

theorem tick_port (s : State) (p : Port) : s.tick.port p = (s.port p).tick := by cases p <;> rfl

/-- Settles O2: the first thing waiting, or a millisecond. -/
theorem idleStepTakesASignalOrAMillisecond : Obligations.IdleStepTakesASignalOrAMillisecond := by
  intro s idle
  have steps : step s = s.idle := by rw [step, idle]
  rw [steps]
  refine ⟨fun c rest h => ?_, fun none c rest h => ?_, mem_heldRequests s, mem_dueExpiries s, fun signals requests expiries => ?_⟩
  · simp only [State.idle, State.waiting, h, List.cons_append]
  · rw [State.idle, State.waiting, none, List.nil_append, h]
  · refine ⟨s.tick, ?_, rfl, ?_⟩
    · rw [State.idle, State.waiting, signals, requests, expiries]
      rfl
    iterate 12 refine ⟨Timer.tick_moved _, ?_⟩
    refine ⟨fun p => ?_, rfl⟩
    rw [tick_port]
    exact ⟨Timer.tick_moved _, rfl⟩

end Sys2Proof.Machine

/-! ## The Genset Sequencer (chapter 4): its operations as the statements describe them, and its commands -/

namespace Sys2Proof.Machine

/-! ### Commands to the genset controller (R83) -/

theorem PerPort.set_get {α : Type} (x : PerPort α) (p : Port) : x.set p (x.get p) = x := by cases p <;> rfl

theorem State.onPort_ports (s : State) (p : Port) (f : PartnerPort → PartnerPort) :
    (s.onPort p f).ports = s.ports.set p (f (s.port p)) := rfl

/-- A command queued: whatever else a state's other parts are, its ports are those of the state that queues it. -/
theorem State.commanded_of_ports {s u t : State} {c : GensetCommand} {i : Option Nat} {kw : Nat} (before : u.ports = s.ports)
    (after : t.ports = (u.command c i kw).ports) : s.commanded t c i kw := by
  have self : t.port .genset = (s.port .genset).submit (.gensetCommand c i kw) := by
    rw [State.port_congr after, State.command, State.submit, State.onPort_port_self, State.port_congr before]
  refine ⟨fun q ne => ?_, ?_, fun up => ?_, fun notUp => ?_⟩
  · rw [State.port_congr after, State.command, State.submit, State.onPort_port_other _ _ _ _ ne, State.port_congr before]
  · rw [self]
    exact PartnerPort.submit_eq _ _
  · rw [self, PartnerPort.submit_queue (.inl up)]
    exact mem_enqueue _ _
  · have refused : (s.port .genset).submit (.gensetCommand c i kw) = s.port .genset :=
      PartnerPort.submit_refused (by simp [notUp, Notice.cls])
    rw [after, State.command, State.submit, State.onPort_ports, State.port_congr before, refused, before]
    exact PerPort.set_get _ _

theorem State.command_commanded (s : State) (c : GensetCommand) (i : Option Nat) (kw : Nat) : s.commanded (s.command c i kw) c i kw :=
  State.commanded_of_ports rfl rfl

/-! ### The lockout and the start (R68, R69, R77, R78) -/

@[simp] theorem State.leaving_signals (s : State) (was : GensetState) :
    (s.leaving was).signals = s.signals ++ leavingSignals was := by
  simp only [State.leaving, State.raiseIf_signals, leavingSignals, beq_iff_eq]

@[simp] theorem State.leaving_ports (s : State) (was : GensetState) : (s.leaving was).ports = s.ports := State.raiseIf_ports ..

theorem State.lockOut_ports (s : State) (cause : StopCause) (code : Option Nat) : (s.lockOut cause code).ports = s.ports := by
  simp only [State.lockOut, State.raise_ports, State.leaving_ports]
  rfl

/-- A lockout, whatever is queued after it. -/
theorem State.locked_of {s t : State} {cause : StopCause} {code : Option Nat} (gs : t.gs = (s.lockOut cause code).gs)
    (signals : t.signals = (s.lockOut cause code).signals) : s.locked t cause code := by
  refine ⟨?_, ?_⟩
  · rw [gs, State.lockOut, State.raise_gs, State.leaving_gs]
    rfl
  · rw [State.raised, signals, State.lockOut, State.raise_signals, State.leaving_signals, List.append_assoc]
    rfl

theorem State.lockOut_locked (s : State) (cause : StopCause) (code : Option Nat) : s.locked (s.lockOut cause code) cause code :=
  State.locked_of rfl rfl

/-- A lockout with STOP queued (R68, R69, R77). -/
theorem State.lockOut_stop (s : State) (cause : StopCause) (code : Option Nat) :
    s.locked ((s.lockOut cause code).command .stop) cause code ∧ s.commanded ((s.lockOut cause code).command .stop) .stop none 0 :=
  ⟨State.locked_of rfl rfl, State.commanded_of_ports (State.lockOut_ports s cause code) rfl⟩

theorem State.startEngine_started (s : State) (cause : StartCause) : s.started (s.startEngine cause) cause := by
  refine ⟨fun few => ?_, fun three => ?_⟩
  · rw [State.startEngine, if_pos few]
    exact ⟨rfl, State.commanded_of_ports rfl rfl, (List.append_nil _).symm⟩
  · rw [State.startEngine, if_neg (Nat.not_lt.2 three)]
    exact State.lockOut_stop s .noStart none

/-! ### ONLINE and the idle-off timer (R72 to R74) -/

theorem State.idleOffEnds_idledOff (s : State) (cause : StopCause) (h : cause ≠ .fault) : s.idledOff (s.idleOffEnds cause) cause := by
  refine ⟨?_, ?_, ?_⟩
  · simp only [State.idleOffEnds, State.leaving_gs, State.coolDown, State.onGs_gs, State.command_gs, Sequencer.stopFor, if_neg h]
    rfl
  · exact State.commanded_of_ports rfl (State.leaving_ports ..)
  · exact State.leaving_signals ..

theorem idleTimer_eq (code : Nat) : idleTimer code = idleStarted code := by
  unfold idleTimer
  split
  case h_10 n h0 h8 h9 h10 h11 h12 h13 h14 h15 =>
    have plain : [0, 1, 2, 3, 4, 5, 6, 7, 10, 15, 20, 30, 45, 60, 90, 120].getD code code = code := by
      by_cases small : code < 8
      · interval_cases code <;> rfl
      · rw [List.getD_eq_default]
        have : 16 ≤ code := by
          by_contra less
          have : code = 8 ∨ code = 9 ∨ code = 10 ∨ code = 11 ∨ code = 12 ∨ code = 13 ∨ code = 14 ∨ code = 15 := by omega
          simp_all
        exact this
    rw [idleStarted, if_neg h0, plain]
    rfl
  all_goals rfl

theorem Timer.isRunning_iff {t : Timer} : t.isRunning = true ↔ t ≠ .stopped := by cases t <;> simp [Timer.isRunning]

theorem State.applyIdleRule_ruled (s : State) : s.idleRuled s.applyIdleRule := by
  refine ⟨fun other => by rw [State.applyIdleRule, if_neg other], fun online => ⟨fun held => ?_, fun none clear => ?_⟩⟩
  · have keeps : ¬ (s.gs.heldIndex.isNone && !s.gs.wantedCopy) = true := by
      rcases held with some | wanted
      · simp [Option.isNone_iff_eq_none, some]
      · simp [wanted]
    rw [State.applyIdleRule, if_pos online, if_neg keeps]
    rfl
  · have ends : (s.gs.heldIndex.isNone && !s.gs.wantedCopy) = true := by simp [none, clear]
    have rule : s.applyIdleRule = if s.gs.idleOff.isRunning then s else if s.quiet then s.idleOffEnds .quietZone
        else s.onGs fun g => { g with idleOff := idleTimer s.settings.idleOffCode } := by
      rw [State.applyIdleRule, if_pos online, if_pos ends]
    refine ⟨fun runs => ?_, fun stopped loud => ?_, fun stopped quiet => ?_⟩
    · rw [rule, if_pos (Timer.isRunning_iff.2 runs)]
    · rw [rule, if_neg (by simp [Timer.isRunning, stopped]), if_neg (by simp [loud]), idleTimer_eq]
      rfl
    · rw [rule, if_neg (by simp [Timer.isRunning, stopped]), if_pos quiet]
      exact State.idleOffEnds_idledOff s .quietZone (by decide)

theorem within_operate_raise (s : State) (c : Instr) : Within gensetPieces s (s.operate.raise c) :=
  (((within_command s _ _ _).mono (by decide)).trans ((within_raise _ c).mono (by decide))).1

theorem State.enterOnline_entered (s : State) : s.enteredOnline s.enterOnline := by
  refine ⟨_, ?_, ?_, ?_, ?_, State.applyIdleRule_ruled _⟩
  · rfl
  · exact State.commanded_of_ports rfl rfl
  · rfl
  · exact (((within_onGs s _).mono (by decide)).1).trans (within_operate_raise _ _)

/-! ### Start need (R66) -/

theorem startPermission_iff (s : State) : s.startPermission = true ↔ s.permitsStart := by
  unfold State.startPermission State.permitsStart
  have up : s.isUp .genset = true ↔ (s.port .genset).state = .up := beq_iff_eq
  rw [Bool.and_eq_true, Bool.and_eq_true, and_assoc, up, Bool.or_eq_true, Bool.not_eq_true']
  refine and_congr_right fun _ => and_congr_right fun _ => or_congr_right ?_
  cases s.view.pack <;> simp

theorem startNeed_iff (s : State) : s.startNeed = true ↔ s.needsStart := by
  rw [State.startNeed, Bool.and_eq_true, startPermission_iff]
  rfl

theorem State.evaluateStart_evaluated (s : State) : s.evaluated s.evaluateStart := by
  refine ⟨fun need stopped => ?_, fun need cooling => ?_, fun none => ?_⟩
  · simp only [State.evaluateStart, stopped, startNeed_iff, need, if_true]
    rcases s.gs.wantCause with _ | _ | _ <;> exact State.startEngine_started s _
  · simp only [State.evaluateStart, cooling, startNeed_iff, need, if_true]
    exact State.enterOnline_entered s
  · rcases none with noNeed | ⟨notStopped, notCooling⟩
    · simp only [State.evaluateStart, startNeed_iff, noNeed, if_false]
      split <;> rfl
    · unfold State.evaluateStart
      split <;> first | rfl | contradiction

theorem enteredStopped_of {s u : State} {g : Sequencer} {command : Option GensetCommand} (gs : u.gs = g) (signals : u.signals = s.signals)
    (frame : Within gensetPieces s u) (queued : ∀ c, command = some c → s.commanded u c none 0)
    (kept : command = none → u.ports = s.ports) : s.enteredStopped u.enterStopped command g := by
  refine ⟨u.onGs fun g => { g with state := .stopped }, ?_, ?_, ?_, queued, kept, State.evaluateStart_evaluated _⟩
  · rw [State.onGs_gs, gs]
  · exact signals.trans (List.append_nil _).symm
  · exact frame.trans ((within_onGs u _).mono (by decide)).1

/-- STOPPED entered with nothing queued. -/
theorem enteredStopped_plain {s u : State} {g : Sequencer} (gs : u.gs = g) (signals : u.signals = s.signals)
    (frame : Within gensetPieces s u) (ports : u.ports = s.ports) : s.enteredStopped u.enterStopped none g :=
  enteredStopped_of gs signals frame (fun _ e => nomatch e) fun _ => ports

/-- STOPPED entered with STOP queued. -/
theorem enteredStopped_stop {s u : State} {g : Sequencer} (gs : u.gs = g) (signals : u.signals = s.signals)
    (frame : Within gensetPieces s u) (ports : u.ports = s.ports) : s.enteredStopped (u.command .stop).enterStopped (some .stop) g := by
  refine enteredStopped_of (u := u.command .stop) gs signals ?_ ?_ (fun e => nomatch e)
  · exact frame.trans ((within_command u _ _ _).mono (by decide)).1
  · rintro c ⟨⟩
    exact State.commanded_of_ports ports rfl

theorem State.enterCooldown_entered (s : State) : s.enteredCooldown s.enterCooldown := by
  refine ⟨(s.command .cooldown).coolDown, ?_, ?_, ?_, ?_, State.evaluateStart_evaluated _⟩
  · rfl
  · exact (List.append_nil _).symm
  · exact (((within_command s .cooldown none 0).mono (by decide)).trans ((within_coolDown _).mono (by decide))).1
  · exact State.commanded_of_ports rfl rfl

/-! ### Genset reports (R67 to R71, R76, R77, R79) -/

/-- A crank that ends in RUNNING: cold, it warms; else it goes ONLINE at once (R69, R71, R85). -/
theorem crankEnds_cases (s : State) (coolant : Int) :
    let cold := coolant < s.settings.warmTemp
    let m : State := { s with
      gs := { s.gs with state := .warming, crank := .stopped }
      signals := s.signals ++ [Instr.startPointsHandOff (if cold then 3 else 1)] }
    (cold → s.crankEnds coolant = { m with gs := { m.gs with warm := .running (1000 * s.settings.warm) } }) ∧
      (¬ cold → m.enteredOnline (s.crankEnds coolant)) := by
  dsimp only
  refine ⟨fun cold => ?_, fun hot => ?_⟩
  · have notWarm : ¬ s.settings.warmTemp ≤ coolant := by omega
    simp only [State.crankEnds, notWarm, cold, decide_false, Bool.false_eq_true, if_false, if_true]
    rfl
  · have warm : s.settings.warmTemp ≤ coolant := by omega
    simp only [State.crankEnds, warm, hot, decide_true, if_false, if_true]
    exact State.enterOnline_entered _

/-- Settles O39: by the state and the condition reported. -/
theorem gensetReportsAreTaken : Obligations.GensetReportsAreTaken := by
  intro cond coolant fault s
  refine ⟨_, rfl, within_of_exec (c := .gensetReportSignal cond coolant fault) rfl, ?_⟩
  intro a
  have taken : s.consume (.gensetReportSignal cond coolant fault) = a := rfl
  have gs : s.gs = a.gs := rfl
  have settings : s.settings = a.settings := rfl
  clear_value a
  rw [taken, gs, settings]
  refine ⟨?_, ?_, ?_, ?_, ?_, ?_, ?_, ?_, ?_, ?_⟩
  · rintro ⟨unknown, rfl⟩
    simp only [State.takeGensetReport, unknown]
    exact enteredStopped_plain rfl rfl (Within.refl _ _) rfl
  · rintro ⟨unknown, rfl⟩
    simp only [State.takeGensetReport, unknown]
    exact enteredStopped_stop rfl rfl (Within.refl _ _) rfl
  · rintro ⟨unknown, rfl⟩
    simp only [State.takeGensetReport, unknown]
    exact State.enterCooldown_entered a
  · rintro ⟨free, rfl⟩
    have fails : a.takeGensetReport .fault coolant fault = a.failed fault := by
      unfold State.takeGensetReport
      split <;> first | rfl | contradiction
    rw [fails]
    exact State.lockOut_stop a .fault fault
  · rintro ⟨runs | runs, rfl⟩ <;> simp only [State.takeGensetReport, runs] <;> exact State.lockOut_stop a .fault none
  · rintro ⟨still, turning⟩
    have stops : a.takeGensetReport cond coolant fault = a.command .stop := by
      rcases still with e | e <;> rcases turning with rfl | rfl <;> simp only [State.takeGensetReport, e]
    rw [stops]
    exact ⟨rfl, State.command_commanded .., (List.append_nil _).symm⟩
  · rintro ⟨cranking, rfl⟩
    simp only [State.takeGensetReport, cranking]
    exact crankEnds_cases a coolant
  · rintro ⟨warming, rfl, warm⟩
    simp only [State.takeGensetReport, warming, warm, if_true]
    exact State.enterOnline_entered a
  · rintro ⟨cooling, rfl⟩
    have ends : a.takeGensetReport .stopped coolant fault = (a.onGs fun g => { g with cooldown := .stopped }).enterStopped := by
      unfold State.takeGensetReport
      split <;> first | rfl | simp_all
    rw [ends]
    exact enteredStopped_plain rfl rfl ((within_onGs a fun g => { g with cooldown := .stopped }).mono (by decide)).1 rfl
  · rintro (locked | ⟨still | still, rfl⟩ | ⟨cranking, rfl | rfl⟩ | ⟨warming, rfl | ⟨rfl, cold⟩⟩ | ⟨runs | runs, rfl | rfl⟩)
    · simp only [State.takeGensetReport, locked]
    · simp only [State.takeGensetReport, still]
    · simp only [State.takeGensetReport, still]
    · simp only [State.takeGensetReport, cranking]
    · simp only [State.takeGensetReport, cranking]
    · simp only [State.takeGensetReport, warming]
    · have notWarm : ¬ a.settings.warmTemp ≤ coolant := by omega
      simp only [State.takeGensetReport, warming, notWarm, if_false]
    all_goals simp only [State.takeGensetReport, runs]

/-! ### The events at which start need is evaluated (R66, R73, R81) -/

/-- A cooldown of a set time is cut to the quiet cooldown setting if it has more left (R81). -/
theorem zoneSet_cases (s : State) :
    (s.gs.idleOff ≠ .stopped → s.idledOff s.zoneSet .quietZone) ∧
      (∀ n, s.gs.idleOff = .stopped → s.gs.state = .cooldown → s.gs.cooldown = .running n →
        s.zoneSet = { s with gs := { s.gs with cooldown := .running (min n (1000 * s.settings.quietCooldown)) } }) ∧
      (s.gs.idleOff = .stopped → s.gs.state ≠ .cooldown ∨ s.gs.cooldown = .stopped → s.zoneSet = s) := by
  refine ⟨fun runs => ?_, fun n still cooling left => ?_, fun still none => ?_⟩
  · rw [State.zoneSet, if_pos (Timer.isRunning_iff.2 runs)]
    exact State.idleOffEnds_idledOff s .quietZone (by decide)
  · rw [State.zoneSet, if_neg (by simp [still, Timer.isRunning]), if_pos cooling]
    simp only [State.onGs, left, cutCooldown]
  · rw [State.zoneSet, if_neg (by simp [still, Timer.isRunning])]
    rcases none with other | stopped
    · rw [if_neg other]
    · split
      · rw [State.onGs, stopped, cutCooldown, ← stopped]
      · rfl

theorem writeCriticalMarkOp_cases (s : State) (v : Int) :
    let mark := (max 0 (min 1000 v)).toNat
    let a := { s with settings := { s.settings with criticalMark := mark } }
    (mark = s.settings.criticalMark → s.writeCriticalMarkOp v = a) ∧
      (mark ≠ s.settings.criticalMark → s.writeCriticalMarkOp v = a.evaluateStart) := by
  dsimp only
  rw [← writtenIn_value (by decide)]
  exact ⟨fun same => if_pos same, fun other => if_neg other⟩

/-- Settles O40: each event's own effect, and then the evaluation. -/
theorem startNeedIsEvaluated : Obligations.StartNeedIsEvaluated := by
  refine ⟨fun wanted cause s => ?_, fun s => ?_, fun v s => ?_, fun on s => ?_, fun s => ?_⟩
  · exact ⟨_, _, rfl, within_of_exec (c := .gensetWantedChange wanted cause) rfl, State.evaluateStart_evaluated _,
      State.applyIdleRule_ruled _⟩
  · exact ⟨_, rfl, within_of_exec (c := .criticalMarkSignal) rfl, State.evaluateStart_evaluated _⟩
  · obtain ⟨same, other⟩ := writeCriticalMarkOp_cases s v
    have tidy := within_writeCriticalMarkOp s v
    refine ⟨_, s.writeCriticalMarkOp v, rfl, rfl, tidy.1, State.writeDone_replies (tidy.1 .svc (by decide)) _ (by decide) v, same,
      fun ne => ?_⟩
    rw [other ne]
    exact State.evaluateStart_evaluated _
  · obtain ⟨ends, cuts, keeps⟩ := zoneSet_cases (s.consume (.quietZoneSequencer on))
    refine ⟨_, _, rfl, within_of_exec (c := .quietZoneSequencer on) rfl, State.evaluateStart_evaluated _, ?_, ?_, ?_⟩
    · rintro rfl runs
      exact ends runs
    · rintro n rfl still cooling left
      exact cuts n still cooling left
    · rintro (rfl | ⟨still, none⟩)
      · rfl
      · cases on with
        | true => exact keeps still none
        | false => rfl
  · exact ⟨_, rfl, within_of_exec (c := .portStateSequencer .up) rfl, State.evaluateStart_evaluated _⟩

/-! ### Timers (R69 to R76) -/

theorem not_isRunning_of_stopped {t : Timer} (h : t = .stopped) : ¬ t.isRunning = true := by rw [h]; decide

/-- Settles O41: each expiry by whether its timer runs. -/
theorem sequencerTimersExpire : Obligations.SequencerTimersExpire := by
  refine ⟨fun s => ?_, fun s => ?_, fun s => ?_, fun s => ?_, fun s => ?_⟩
  · by_cases runs : s.gs.crank.isRunning = true
    · by_cases few : s.gs.attempts < 3
      · have ran : exec .crankTimerExpiry s =
            .next ((s.onGs fun g => { g with state := .resting, crank := .stopped, rest := Timer.seconds 10 }).command .stop) :=
          (if_pos runs).trans (if_pos few)
        exact ⟨_, ran, within_of_exec ran, fun stopped => absurd runs (not_isRunning_of_stopped stopped), fun _ =>
          ⟨State.commanded_of_ports rfl rfl, fun _ => ⟨rfl, (List.append_nil _).symm⟩, fun three => absurd few (Nat.not_lt.2 three)⟩⟩
      · have ran : exec .crankTimerExpiry s = .next ((s.lockOut .noStart none).command .stop) := (if_pos runs).trans (if_neg few)
        obtain ⟨locked, commanded⟩ := State.lockOut_stop s .noStart none
        exact ⟨_, ran, within_of_exec ran, fun stopped => absurd runs (not_isRunning_of_stopped stopped), fun _ =>
          ⟨commanded, fun h => absurd h few, fun _ => locked⟩⟩
    · have ran : exec .crankTimerExpiry s = .next s := if_neg runs
      exact ⟨_, ran, within_of_exec ran, fun _ => rfl, fun h => absurd (Timer.isRunning_iff.2 h) runs⟩
  · by_cases runs : s.gs.rest.isRunning = true
    · have ran : exec .restTimerExpiry s = .next (s.onGs fun g => { g with rest := .stopped }).enterStopped := if_pos runs
      exact ⟨_, ran, within_of_exec ran, fun stopped => absurd runs (not_isRunning_of_stopped stopped), fun _ =>
        enteredStopped_plain rfl rfl ((within_onGs s _).mono (by decide)).1 rfl⟩
    · have ran : exec .restTimerExpiry s = .next s := if_neg runs
      exact ⟨_, ran, within_of_exec ran, fun _ => rfl, fun h => absurd (Timer.isRunning_iff.2 h) runs⟩
  · by_cases runs : s.gs.warm.isRunning = true
    · have ran : exec .warmTimerExpiry s = .next s.enterOnline := if_pos runs
      exact ⟨_, ran, within_of_exec ran, fun stopped => absurd runs (not_isRunning_of_stopped stopped), fun _ =>
        State.enterOnline_entered s⟩
    · have ran : exec .warmTimerExpiry s = .next s := if_neg runs
      exact ⟨_, ran, within_of_exec ran, fun _ => rfl, fun h => absurd (Timer.isRunning_iff.2 h) runs⟩
  · cases timer : s.gs.idleOff with
    | running n =>
      have ran : exec .idleOffExpiry s = .next (s.idleOffEnds .idleOff).evaluateStart := by
        simp only [exec, execIdleOffExpiry, timer]
      exact ⟨_, ran, within_of_exec ran, by simp, fun _ _ =>
        ⟨_, State.idleOffEnds_idledOff s .idleOff (by decide), State.evaluateStart_evaluated _⟩⟩
    | stopped =>
      have ran : exec .idleOffExpiry s = .next s := by simp only [exec, execIdleOffExpiry, timer]
      exact ⟨_, ran, within_of_exec ran, fun _ => rfl, by simp⟩
    | endless =>
      have ran : exec .idleOffExpiry s = .next s := by simp only [exec, execIdleOffExpiry, timer]
      exact ⟨_, ran, within_of_exec ran, fun _ => rfl, by simp⟩
  · by_cases runs : s.gs.cooldown.isRunning = true
    · have ran : exec .cooldownTimerExpiry s =
          .next ((s.onGs fun g => { g with cooldown := .stopped }).command .stop).enterStopped := if_pos runs
      exact ⟨_, ran, within_of_exec ran, fun stopped => absurd runs (not_isRunning_of_stopped stopped), fun _ =>
        enteredStopped_stop rfl rfl ((within_onGs s _).mono (by decide)).1 rfl⟩
    · have ran : exec .cooldownTimerExpiry s = .next s := if_neg runs
      exact ⟨_, ran, within_of_exec ran, fun _ => rfl, fun h => absurd (Timer.isRunning_iff.2 h) runs⟩

/-! ### Commitments, activity and lockouts (R68, R72, R75, R78, R79) -/

/-- Settles O42: by whether the commitment differs, and whether the engine is ONLINE. -/
theorem commitmentsAreHeld : Obligations.CommitmentsAreHeld := by
  intro kw index s
  by_cases same : s.gs.heldKw = kw ∧ s.gs.heldIndex = index
  · have ran : exec (.commitmentHanded kw index) s = .next (s.consume (.commitmentHanded kw index)) := if_pos same
    exact ⟨_, ran, within_of_exec ran, fun _ _ => rfl, fun differs => absurd same (by tauto)⟩
  · let held : State := (s.consume (.commitmentHanded kw index)).onGs fun g => { g with heldKw := kw, heldIndex := index }
    have ran : exec (.commitmentHanded kw index) s =
        .next (if held.gs.state = .online then held.operate else held).applyIdleRule := if_neg same
    refine ⟨_, ran, within_of_exec ran, fun kws indices => absurd ⟨kws, indices⟩ same, fun _ =>
      ⟨if held.gs.state = .online then held.operate else held, ?_, ?_, ?_, State.applyIdleRule_ruled _, fun online => ?_,
        fun other => ?_⟩⟩
    · split <;> rfl
    · refine Within.trans (t := held) ?_ ?_
      · exact ((within_onGs (s.consume _) fun g => { g with heldKw := kw, heldIndex := index }).mono (by decide)).1
      split
      · exact ((within_command held _ _ _).mono (by decide)).1
      · exact Within.refl _ _
    · split <;> exact (List.append_nil _).symm
    · rw [if_pos (c := held.gs.state = .online) online]
      exact State.commanded_of_ports rfl rfl
    · rw [if_neg (c := held.gs.state = .online) other]
      rfl

/-- The activity flags with one source's latched (R75). -/
theorem ActivityFlags.add_iff (f : ActivityFlags) (src : ActivitySource) :
    ((f.add src).tractionRise = true ↔ src = .tractionRise ∨ f.tractionRise = true) ∧
      ((f.add src).brakeRelease = true ↔ src = .brakeRelease ∨ f.brakeRelease = true) ∧
      ((f.add src).socLow = true ↔ src = .socLow ∨ f.socLow = true) ∧
      ((f.add src).service = true ↔ src = .service ∨ f.service = true) := by
  cases src <;> simp [ActivityFlags.add]

theorem takeActivity_idleOff (s : State) (src : ActivitySource) :
    (s.takeActivity src).gs.idleOff =
      if s.gs.idleOff ≠ .stopped ∧ s.settings.masked src = false then idleStarted s.settings.idleOffCode else s.gs.idleOff := by
  simp only [State.takeActivity, State.onGs_gs, Bool.and_eq_true, Bool.not_eq_true', Timer.isRunning_iff, idleTimer_eq]

theorem activityCode_bytes (f : ActivityFlags) :
    le32 f.code = [BitVec.ofNat 8 ((if f.tractionRise then 1 else 0) + (if f.brakeRelease then 2 else 0) +
      (if f.socLow then 4 else 0) + (if f.service then 8 else 0)), 0, 0, 0] := by
  obtain ⟨a, b, c, d⟩ := f
  revert a b c d
  decide

/-- Settles O43: the latch and the timer, then for ACTIVITY the start. -/
theorem activityIsTaken : Obligations.ActivityIsTaken := by
  refine ⟨fun src s => ?_, fun s => ?_, fun s => ?_⟩
  · obtain ⟨traction, brake, soc, service⟩ := ActivityFlags.add_iff s.gs.activity src
    refine ⟨_, rfl, rfl, rfl, traction, brake, soc, service, ?_⟩
    cases src <;> exact takeActivity_idleOff (s.consume _) _
  · obtain ⟨traction, brake, soc, service⟩ := ActivityFlags.add_iff s.gs.activity .service
    have starts : (s.takeActivity .service).serviceStart.svc = s.svc :=
      (within_serviceStart (s.takeActivity .service)).1 .svc (by decide)
    refine ⟨_, s.takeActivity .service, (s.takeActivity .service).serviceStart, rfl, rfl, State.serviceDone_replies starts _ _, rfl,
      ⟨rfl, traction, brake, soc, service, takeActivity_idleOff s .service⟩, fun stopped permits => ?_, fun none => ?_⟩
    · have may : (s.takeActivity .service).startPermission = true := (startPermission_iff _).2 permits
      rw [State.serviceStart, if_pos ⟨stopped, may⟩]
      exact State.startEngine_started _ _
    · rw [State.serviceStart, if_neg]
      rintro ⟨stopped, may⟩
      rcases none with other | forbidden
      · exact other stopped
      · exact forbidden ((startPermission_iff (s.takeActivity .service)).1 may)
  · refine ⟨_, rfl, rfl, ?_⟩
    rw [← activityCode_bytes]
    exact State.serviceAnswer_replies (s := s) rfl .activityStatusRead 0x60 .done false (le32 s.gs.activity.code)

/-- A lockout reaches the sequencer and the signals alone. -/
theorem within_lockOut_parts (s : State) (cause : StopCause) (code : Option Nat) : Within [.gs, .signals] s (s.lockOut cause code) :=
  (((within_onGs s _).mono (by decide)).trans
    (((within_leaving _ _).mono (by decide)).trans ((within_raise _ _).mono (by decide)))).1

theorem within_gensetPortGone (s : State) (c : Instr) : Within [.gs, .signals] s (s.consume c).gensetPortGone :=
  ((within_consume s c).1.mono (by decide)).trans (within_lockOut_parts _ _ _)

/-- How a lockout is left, by the port and the condition the genset controller last reported (R79). -/
theorem leaveLockout_cases (s : State) :
    let told := s.signals ++ [Instr.conditionLevelChange [.gensetLockout false]]
    let cleared : State := { s with signals := told }
    let up := (s.port .genset).state = .up
    (¬ up ∨ s.view.genset = none → s.leaveLockout = { s with gs := { s.gs with state := .unknown }, signals := told }) ∧
      (∀ p, up → s.view.genset = some p →
        (p.content.condition = .stopped → cleared.enteredStopped s.leaveLockout none s.gs) ∧
        (p.content.condition = .cranking → cleared.enteredStopped s.leaveLockout (some .stop) s.gs) ∧
        (p.content.condition = .running → cleared.enteredCooldown s.leaveLockout) ∧
        (p.content.condition = .fault → s.leaveLockout = s)) := by
  have isUp : s.isUp .genset = true ↔ (s.port .genset).state = .up := beq_iff_eq
  refine ⟨fun silent => ?_, fun p up held => ?_⟩
  · by_cases up : (s.port .genset).state = .up
    · have absent : s.view.genset = none := silent.resolve_left fun notUp => notUp up
      simp only [State.leaveLockout, isUp.2 up, if_true, absent]
      rfl
    · rw [State.leaveLockout, if_neg fun e => up (isUp.1 e)]
      rfl
  · simp only [State.leaveLockout, isUp.2 up, if_true, held]
    refine ⟨fun stopped => ?_, fun cranking => ?_, fun running => ?_, fun fault => ?_⟩
    · rw [stopped]
      exact enteredStopped_plain (s := s.unlocked) rfl rfl (Within.refl _ _) rfl
    · rw [cranking]
      exact enteredStopped_stop (s := s.unlocked) rfl rfl (Within.refl _ _) rfl
    · rw [running]
      exact State.enterCooldown_entered s.unlocked
    · rw [fault]

/-- Settles O44: by the state at the loss, and for CLEAR_LOCKOUT by the port and the condition held. -/
theorem lockoutsAreSetAndCleared : Obligations.LockoutsAreSetAndCleared := by
  refine ⟨fun s => ?_, fun s => ?_, fun s => ?_⟩
  · by_cases exempt : s.gs.state = .unknown ∨ s.gs.state = .lockedOut
    · have ran : exec (.portStateSequencer .lost) s = .next (s.consume (.portStateSequencer .lost)) := if_pos exempt
      exact ⟨_, ran, (within_consume s _).1.mono (by decide), fun _ => rfl, fun a b => absurd exempt (by tauto)⟩
    · have ran : exec (.portStateSequencer .lost) s = .next (s.consume (.portStateSequencer .lost)).gensetPortGone := if_neg exempt
      exact ⟨_, ran, within_gensetPortGone s _, fun h => absurd h exempt, fun _ _ => State.lockOut_locked _ _ _⟩
  · by_cases exempt : s.gs.state = .lockedOut
    · have ran : exec (.portStateSequencer .down) s = .next (s.consume (.portStateSequencer .down)) := if_pos exempt
      exact ⟨_, ran, (within_consume s _).1.mono (by decide), fun _ => rfl, fun h => absurd exempt h⟩
    · have ran : exec (.portStateSequencer .down) s = .next (s.consume (.portStateSequencer .down)).gensetPortGone := if_neg exempt
      exact ⟨_, ran, within_gensetPortGone s _, fun h => absurd h exempt, fun _ => State.lockOut_locked _ _ _⟩
  · by_cases locked : s.gs.state = .lockedOut
    · let zeroed : State := s.onGs fun g => { g with attempts := 0 }
      have ran : exec .clearLockout s = .next (zeroed.leaveLockout.serviceDone .clearLockout 0x64) := by
        change Host.Outcome.next _ = _
        rw [if_pos locked]
      have tidy : Tidy gensetPieces s zeroed.leaveLockout :=
        ((within_onGs s _).mono (by decide)).trans (within_leaveLockout zeroed)
      exact ⟨_, zeroed.leaveLockout, ran, rfl, tidy.1, State.serviceDone_replies (tidy.1 .svc (by decide)) _ _,
        fun other => absurd locked other, fun _ => leaveLockout_cases zeroed⟩
    · have ran : exec .clearLockout s = .next (s.serviceDone .clearLockout 0x64) := by
        change Host.Outcome.next _ = _
        rw [if_neg locked]
      exact ⟨_, s, ran, rfl, Within.refl _ _, State.serviceDone_replies rfl _ _, fun _ => rfl, fun h => absurd h locked⟩

end Sys2Proof.Machine

/-! ## The Auxiliary Output Unit (chapter 5): mode, lines and allowances -/

namespace Sys2Proof.Machine

/-! ### Lines and allowances -/

/-- A line is high exactly where the vector's bit and the polarity agree (R92). -/
theorem lineLevels_getLsbD (vector polarity : BitVec 8) {i : Nat} (inside : i < 8) :
    (lineLevels vector polarity).getLsbD i = true ↔ vector.getLsbD i = polarity.getLsbD i := by
  simp [lineLevels, inside]

theorem State.driveLines_highZ {s : State} (h : s.aux.lines = .highZ) : s.driveLines = s := by
  simp only [State.driveLines, h]

theorem State.driveLines_driven {s : State} (h : s.aux.lines ≠ .highZ) :
    s.driveLines = { s with aux := { s.aux with
      lines := .driven (lineLevels (s.settings.vectors.get s.aux.mode) s.settings.polarity) } } := by
  unfold State.driveLines
  split
  · contradiction
  · rfl

/-- Driven lines take the levels of the mode and the settings; high-impedance lines stay so (R92, R93). -/
theorem State.driveLines_redriven {s u : State} (lines : u.aux.lines = s.aux.lines) : s.redriven u.driveLines := by
  refine ⟨fun high => ?_, fun low => ?_⟩
  · rw [State.driveLines_highZ (lines.trans high), lines, high]
  · rw [State.driveLines_driven (lines ▸ low)]
    exact ⟨_, rfl, fun i inside => lineLevels_getLsbD _ _ inside⟩

@[simp] theorem State.driveLines_mode (s : State) : s.driveLines.aux.mode = s.aux.mode := by
  unfold State.driveLines
  split <;> rfl

@[simp] theorem State.driveLines_allowances (s : State) : s.driveLines.aux.allowances = s.aux.allowances := by
  unfold State.driveLines
  split <;> rfl

/-- The allowance of a vector, counted from any line on, is a sum over the draws (R90). -/
theorem allowance_eq_sum (v : BitVec 8) (ds : List Nat) :
    ∀ i, allowance v i ds = ((List.range ds.length).map fun j => if v.getLsbD (i + j) then ds.getD j 0 else 0).sum := by
  induction ds with
  | nil => intro i; rfl
  | cons d ds ih =>
    intro i
    have shift : ∀ j, i + 1 + j = i + (j + 1) := by omega
    simp only [allowance, ih, List.length_cons, List.range_succ_eq_map, List.map_cons, List.map_map, List.sum_cons, Nat.add_zero,
      List.getD_cons_zero, Function.comp_def, List.getD_cons_succ, shift]

theorem Settings.allowances_get (x : Settings) (m : Mode) : x.allowances.get m = allowance (x.vectors.get m) 0 x.draws := by
  cases m <;> rfl

theorem State.allowed_of {s : State} (h : s.aux.allowances = s.settings.allowances) : s.allowed := by
  intro m
  rw [h, Settings.allowances_get, allowance_eq_sum]
  simp only [Nat.zero_add]

theorem PerMode.set_get {α : Type} (x : PerMode α) (m n : Mode) (v : α) : (x.set m v).get n = if n = m then v else x.get n := by
  cases m <;> cases n <;> rfl

theorem setBit_getLsbD {w : Nat} (x : BitVec w) (i : Nat) (on : Bool) {j : Nat} (inside : j < w) :
    (setBit x i on).getLsbD j = if j = i then on else x.getLsbD j := by
  have bit : (1#w <<< i).getLsbD j = decide (j = i) := by
    simp only [BitVec.getLsbD_shiftLeft, BitVec.getLsbD_one, inside, decide_true, Bool.true_and]
    rw [Bool.eq_iff_iff]
    simp only [Bool.and_eq_true, Bool.not_eq_true', decide_eq_false_iff_not, decide_eq_true_eq]
    omega
  cases on with
  | true => rw [setBit, if_pos rfl, BitVec.getLsbD_or, bit]; split <;> simp_all
  | false => rw [setBit, if_neg (by decide), BitVec.getLsbD_and, BitVec.getLsbD_not, bit]; split <;> simp_all

/-! ### The commands -/

/-- The mode is that of the gate and the active contract (R87). -/
theorem drivelineMode_cases (c : ContractUnit) :
    (c.gate ≠ .opened → c.drivelineMode = .safe) ∧
      (∀ a, c.gate = .opened → c.active = some a → c.drivelineMode = a.terms.mode) ∧
      (c.gate = .opened → c.active = none → c.drivelineMode = .electric) := by
  refine ⟨fun shut => ?_, fun a opened active => ?_, fun opened none => ?_⟩
  · cases gate : c.gate with
    | opened => exact absurd gate shut
    | blocked => simp only [ContractUnit.drivelineMode, gate]
    | safe => simp only [ContractUnit.drivelineMode, gate]
  · simp only [ContractUnit.drivelineMode, opened, active]
  · simp only [ContractUnit.drivelineMode, opened, none]

theorem deriveMode_derived (s : State) :
    s.deriveMode.aux.mode = s.cu.drivelineMode ∧ s.deriveMode.aux.allowances = s.aux.allowances ∧
      (s.cu.drivelineMode = s.aux.mode → s.deriveMode = s) ∧ (s.cu.drivelineMode ≠ s.aux.mode → s.redriven s.deriveMode) := by
  by_cases same : s.cu.drivelineMode = s.aux.mode
  · have stays : s.deriveMode = s := if_pos same
    exact ⟨by rw [stays, same], by rw [stays], fun _ => stays, fun h => absurd same h⟩
  · have moves : s.deriveMode = ({ s with aux := { s.aux with mode := s.cu.drivelineMode } } : State).driveLines := if_neg same
    rw [moves]
    exact ⟨State.driveLines_mode _, State.driveLines_allowances _, fun h => absurd h same, fun _ => State.driveLines_redriven rfl⟩

/-- Settles O45: the mode, then a write of each of the three settings, by whether it changes anything. -/
theorem modeLinesAndAllowances : Obligations.ModeLinesAndAllowances := by
  refine ⟨fun s => ?_, fun m value s => ?_, fun line value s => ?_, fun line value s => ?_⟩
  · obtain ⟨mode, allowances, stays, moves⟩ := deriveMode_derived (s.consume .modeDerivation)
    obtain ⟨shut, active, none⟩ := drivelineMode_cases s.cu
    have within := (within_deriveMode (s.consume .modeDerivation)).1
    refine ⟨_, rfl, within .signals (by decide), within_of_exec (c := .modeDerivation) rfl, allowances,
      fun h => mode.trans (shut h), fun c o a => mode.trans (active c o a), fun o n => mode.trans (none o n), fun same => ?_,
      fun other => ?_⟩
    · rw [stays (mode ▸ same)]
      rfl
    · exact moves (mode ▸ other)
  · have tidy := within_writeModeVectorOp s m value
    refine ⟨_, s.writeModeVectorOp m value, rfl, rfl, State.serviceAnswer_replies (tidy.1 .svc (by decide)) _ _ _ _ _,
      fun same => if_pos same, fun differs => ?_⟩
    let told : State := ({ s with settings := { s.settings with vectors := s.settings.vectors.set m (BitVec.ofInt 8 value) } }).auxChanged
    have written : s.writeModeVectorOp m value = if told.aux.mode = m then told.driveLines else told := if_neg differs
    have settings := writeModeVectorOp_settings s m value
    have mode : (s.writeModeVectorOp m value).aux.mode = s.aux.mode := by
      rw [written]
      split
      · exact State.driveLines_mode told
      · rfl
    have allowances : (s.writeModeVectorOp m value).aux.allowances = (s.writeModeVectorOp m value).settings.allowances := by
      rw [settings, written]
      split
      · exact State.driveLines_allowances told
      · rfl
    refine ⟨fun n => ?_, ?_, State.allowed_of allowances, mode, ?_, tidy.1, fun current => ?_, fun other => ?_⟩
    · rw [settings]
      exact PerMode.set_get _ _ _ _
    · rw [settings]
    · rw [written]
      split
      · exact (within_driveLines told).1 .signals (by decide)
      · rfl
    · rw [written, if_pos (c := told.aux.mode = m) current]
      exact State.driveLines_redriven rfl
    · rw [written, if_neg (c := told.aux.mode = m) other]
      rfl
  · have tidy := within_writeRatedDrawOp s line value
    refine ⟨_, s.writeRatedDrawOp line value, rfl, rfl, State.writeDone_replies (tidy.1 .svc (by decide)) _ (by decide) value, ?_⟩
    dsimp only
    rw [← writtenIn_value (by decide)]
    refine ⟨fun same => if_pos same, fun differs => ?_⟩
    have written : s.writeRatedDrawOp line value =
        ({ s with settings := { s.settings with draws := s.settings.draws.set line (writtenIn 0 63 value).value.toNat } }).auxChanged :=
      if_neg differs
    rw [written] at tidy ⊢
    exact ⟨rfl, State.allowed_of rfl, rfl, rfl, rfl, tidy.1⟩
  · have tidy := within_writePolarityOp s line value
    have settings := writePolarityOp_settings s line value
    refine ⟨_, s.writePolarityOp line value, rfl, rfl, State.writeDone_replies (tidy.1 .svc (by decide)) _ (by decide) value, ?_,
      fun i inside => ?_, State.driveLines_mode _, State.driveLines_allowances _, State.driveLines_redriven rfl, tidy.1⟩
    · rw [settings]
    · rw [settings, setBit_getLsbD _ _ _ inside, writtenIn_value (by decide)]
      split
      · rw [decide_eq_true_eq]
        omega
      · rfl

end Sys2Proof.Machine

/-! ## The Blend Unit (chapter 6): the figures of a run, and the runs its events take -/

namespace Sys2Proof.Machine

/-! ### The stages of a run (R102 to R108) -/

theorem motorCeiling_cases (x : Settings) (v rMot : Nat) :
    (v ≤ x.vLo → motorCeiling x v rMot = 0) ∧ (x.vLo < v → x.vHi ≤ v → motorCeiling x v rMot = rMot) ∧
      (x.vLo < v → v < x.vHi → motorCeiling x v rMot = rMot * (v - x.vLo) / (x.vHi - x.vLo)) := by
  refine ⟨fun slow => if_pos slow, fun moving fast => ?_, fun moving between => ?_⟩
  · rw [motorCeiling, if_neg (Nat.not_le.2 moving), if_pos fast]
  · rw [motorCeiling, if_neg (Nat.not_le.2 moving), if_neg (Nat.not_le.2 between)]

theorem causes_any_iff (i : BlendInputs) :
    i.causes.any = true ↔ i.contract = none ∨ i.brakeUp = false ∨ i.demand.abs3 = true ∨ i.key = false := by
  simp only [Forced.any, BlendInputs.causes, Bool.or_eq_true, Option.isNone_iff_eq_none, Bool.not_eq_true', or_assoc]

theorem clip_eq (pDem rStorage r : Nat) : clip pDem rStorage r = min r (min pDem rStorage) := Nat.min_assoc _ _ _

/-- The ramp of a periodic run, by where the target stands against the power before (R108). -/
theorem rampPeriodic_cases (x : Settings) (hold : Bool) (prev target : Nat) :
    let r := rampPeriodic x hold prev target
    (target = prev → r = (prev, .none)) ∧
      (prev < target → hold = true → r = (prev, .held)) ∧
      (prev < target → hold = false →
        (target ≤ prev + x.catchUp → r = (min target (prev + x.upSlope), .up)) ∧
        (prev + x.catchUp < target → r = (min target (prev + 2 * x.upSlope), .upDoubled))) ∧
      (target < prev →
        (prev ≤ target + x.catchUp → r = (max target (prev - x.downSlope), .down)) ∧
        (target + x.catchUp < prev → r = (max target (prev - 2 * x.downSlope), .downDoubled))) := by
  dsimp only
  refine ⟨fun same => if_pos same, fun above held => ?_, fun above free => ⟨fun near => ?_, fun far => ?_⟩,
    fun below => ⟨fun near => ?_, fun far => ?_⟩⟩
  · rw [rampPeriodic, if_neg (by omega), if_pos above, if_pos held]
  · rw [rampPeriodic, if_neg (by omega), if_pos above, if_neg (by simp [free]), if_pos (by omega)]
  · rw [rampPeriodic, if_neg (by omega), if_pos above, if_neg (by simp [free]), if_neg (by omega)]
  · rw [rampPeriodic, if_neg (by omega), if_neg (by omega), if_pos (by omega)]
  · rw [rampPeriodic, if_neg (by omega), if_neg (by omega), if_neg (by omega)]

/-- With a forced zero: no target, no power, no step (R107). -/
theorem run_forced (x : Settings) (i : BlendInputs) (periodic : Bool) (forced : i.causes.any = true) :
    (i.run x periodic).result.target = 0 ∧ (i.run x periodic).result.applied = 0 ∧ (i.run x periodic).step = .none ∧
      (i.run x periodic).clipped = false := by
  simp [BlendInputs.run, forced]

/-- The power a run moves to, before the clips, and the step it takes (R108). -/
def BlendInputs.stepped (x : Settings) (i : BlendInputs) (periodic : Bool) : Nat × RampStep :=
  if periodic then rampPeriodic x (i.demand.abs1 || i.demand.abs2) i.prev (i.run x periodic).result.target
  else rampImmediate i.prev (i.run x periodic).result.target

/-- With no forced zero: the least of the four, and the step clipped (R106, R108). -/
theorem run_free (x : Settings) (i : BlendInputs) (periodic : Bool) (free : ¬ i.causes.any = true) :
    let r := (i.run x periodic).result
    r.target = min (min r.pDem r.rMotor) (min r.rStorage r.rAdhesion) ∧
      r.applied = min (i.stepped x periodic).1 (min r.pDem r.rStorage) ∧
      (i.run x periodic).step = (i.stepped x periodic).2 ∧
      ((i.run x periodic).clipped = true ↔ r.applied < (i.stepped x periodic).1) := by
  refine ⟨if_neg free, ?_, ?_, ?_⟩
  · simp [BlendInputs.run, BlendInputs.stepped, free, clip_eq]
  · simp [BlendInputs.run, BlendInputs.stepped, free]
  · simp only [BlendInputs.run, BlendInputs.stepped, free, decide_eq_true_eq, Bool.false_eq_true, if_false]

/-- Settles O46: the ceilings, then the target and the ramp by whether a cause forces 0. -/
theorem targetAndRampOfARun : Obligations.TargetAndRampOfARun := by
  intro x i periodic
  obtain ⟨slow, fast, between⟩ := motorCeiling_cases x i.v i.rMot
  refine ⟨rfl, slow, fast, between, fun none => ?_, fun c aux some => ?_, rfl, fun forced => ?_, fun free => ?_,
    run_applied_le_pDem x i periodic, (run_lawful x i periodic).storage⟩
  · change storageCeiling x.eta i.contract = 0
    rw [none, storageCeiling]
  · change storageCeiling x.eta i.contract = _
    rw [some, storageCeiling]
  · exact run_forced x i periodic ((causes_any_iff i).2 forced)
  · obtain ⟨target, applied, step, clipped⟩ := run_free x i periodic fun any => free ((causes_any_iff i).1 any)
    refine ⟨target, _, applied, clipped, fun immediate => ?_, fun period => ?_⟩
    · have still : i.stepped x periodic = rampImmediate i.prev (i.run x periodic).result.target := by
        rw [BlendInputs.stepped, if_neg (by simp [immediate])]
      rw [step, still]
      exact ⟨rfl, rfl⟩
    · obtain ⟨same, held, up, down⟩ :=
        rampPeriodic_cases x (i.demand.abs1 || i.demand.abs2) i.prev (i.run x periodic).result.target
      have moves : i.stepped x periodic =
          rampPeriodic x (i.demand.abs1 || i.demand.abs2) i.prev (i.run x periodic).result.target := by
        rw [BlendInputs.stepped, if_pos period]
      rw [step, moves]
      refine ⟨fun e => ?_, fun above abs => ?_, fun above no1 no2 => ⟨fun near => ?_, fun far => ?_⟩,
        fun below => ⟨fun near => ?_, fun far => ?_⟩⟩
      · rw [same e]
        exact ⟨rfl, rfl⟩
      · rw [held above (Bool.or_eq_true _ _ ▸ abs)]
        exact ⟨rfl, rfl⟩
      · rw [(up above (by simp [no1, no2])).1 near]
        exact ⟨rfl, rfl⟩
      · rw [(up above (by simp [no1, no2])).2 far]
        exact ⟨rfl, rfl⟩
      · rw [(down below).1 near]
        exact ⟨rfl, rfl⟩
      · rw [(down below).2 far]
        exact ⟨rfl, rfl⟩

/-! ### The commands of a run (R112, R113) -/

theorem State.submit_port_other (s : State) {p q : Port} (n : Notice) (ne : q ≠ p) : (s.submit p n).port q = s.port q :=
  State.onPort_port_other _ _ _ _ ne

theorem State.submit_port_self (s : State) (p : Port) (n : Notice) : (s.submit p n).port p = (s.port p).submit n :=
  State.onPort_port_self _ _ _

theorem State.submit_port_eq (s : State) (p q : Port) (n : Notice) :
    (s.submit p n).port q =
      { s.port q with queue := ((s.submit p n).port q).queue, exchange := ((s.submit p n).port q).exchange } := by
  by_cases e : q = p
  · rw [e, State.submit_port_self]
    exact PartnerPort.submit_eq _ _
  · rw [State.submit_port_other s n e]

/-- An UP port takes every notice (R153). -/
theorem State.mem_submit (s : State) {p : Port} (n : Notice) (up : (s.port p).state = .up) : n ∈ ((s.submit p n).port p).queue := by
  rw [State.submit_port_self, PartnerPort.submit_queue (.inl up)]
  exact mem_enqueue _ _

theorem isUp_iff (s : State) (p : Port) : s.isUp p = true ↔ (s.port p).state = .up := beq_iff_eq

/-- REGEN_COMMAND is queued when the Traction port is UP and its copy differs (R112). -/
theorem State.offerRegen_cases (s : State) :
    let c := some (s.blend.result.applied, s.blend.result.dRegen)
    ((s.port .traction).state = .up → s.blend.regenCopy ≠ c → s.offerRegen =
      { s.submit .traction (.regenCommand s.blend.result.applied s.blend.result.dRegen) with
        blend := { s.blend with regenCopy := c } }) ∧
      ((s.port .traction).state ≠ .up ∨ s.blend.regenCopy = c → s.offerRegen = s) := by
  refine ⟨fun up differs => if_pos ⟨(isUp_iff s _).2 up, differs⟩, fun stays => if_neg ?_⟩
  rintro ⟨up, differs⟩
  exact stays.elim (fun notUp => notUp ((isUp_iff s _).1 up)) differs

/-- FRICTION_COMMAND is queued when the Brake port is UP and its copy differs (R113). -/
theorem State.offerFriction_cases (s : State) :
    let c := s.blend.result.frictionFigures
    ((s.port .brake).state = .up → s.blend.frictionCopy ≠ some c → s.offerFriction =
      { s.submit .brake (.frictionCommand c) with blend := { s.blend with frictionCopy := some c } }) ∧
      ((s.port .brake).state ≠ .up ∨ s.blend.frictionCopy = some c → s.offerFriction = s) := by
  refine ⟨fun up differs => if_pos ⟨(isUp_iff s _).2 up, differs⟩, fun stays => if_neg ?_⟩
  rintro ⟨up, differs⟩
  exact stays.elim (fun notUp => notUp ((isUp_iff s _).1 up)) differs

/-- What REGEN_COMMAND's offer does: it reaches the Traction port and the copy alone (R112). -/
structure State.regenOffered (s t : State) : Prop where
  blend : t.blend = { s.blend with regenCopy := t.blend.regenCopy }
  sent : (s.port .traction).state = .up → s.blend.regenCopy ≠ some (s.blend.result.applied, s.blend.result.dRegen) →
    t.blend.regenCopy = some (s.blend.result.applied, s.blend.result.dRegen) ∧
      .regenCommand s.blend.result.applied s.blend.result.dRegen ∈ (t.port .traction).queue
  kept : (s.port .traction).state ≠ .up ∨ s.blend.regenCopy = some (s.blend.result.applied, s.blend.result.dRegen) →
    t.blend.regenCopy = s.blend.regenCopy ∧ t.port .traction = s.port .traction
  queues : ∀ p, t.port p = { s.port p with queue := (t.port p).queue, exchange := (t.port p).exchange }
  others : ∀ p, p ≠ .traction → t.port p = s.port p

theorem State.offerRegen_offered (s : State) : s.regenOffered s.offerRegen := by
  obtain ⟨sends, stays⟩ := s.offerRegen_cases
  by_cases sent : (s.port .traction).state = .up ∧ s.blend.regenCopy ≠ some (s.blend.result.applied, s.blend.result.dRegen)
  · obtain ⟨up, differs⟩ := sent
    rw [sends up differs]
    refine ⟨rfl, fun _ _ => ⟨rfl, ?_⟩, fun stay => stay.elim (absurd up) (absurd · differs), fun p => ?_, fun p ne => ?_⟩
    · exact State.mem_submit s _ up
    · exact State.submit_port_eq s _ p _
    · exact State.submit_port_other s _ ne
  · rw [stays (by tauto)]
    exact ⟨rfl, fun up differs => absurd ⟨up, differs⟩ sent, fun _ => ⟨rfl, rfl⟩, fun p => rfl, fun p _ => rfl⟩

/-- What FRICTION_COMMAND's offer does: it reaches the Brake port and the copy alone (R113). -/
structure State.frictionOffered (s t : State) : Prop where
  blend : t.blend = { s.blend with frictionCopy := t.blend.frictionCopy }
  sent : (s.port .brake).state = .up → s.blend.frictionCopy ≠ some s.blend.result.frictionFigures →
    t.blend.frictionCopy = some s.blend.result.frictionFigures ∧
      .frictionCommand s.blend.result.frictionFigures ∈ (t.port .brake).queue
  kept : (s.port .brake).state ≠ .up ∨ s.blend.frictionCopy = some s.blend.result.frictionFigures →
    t.blend.frictionCopy = s.blend.frictionCopy ∧ t.port .brake = s.port .brake
  queues : ∀ p, t.port p = { s.port p with queue := (t.port p).queue, exchange := (t.port p).exchange }
  others : ∀ p, p ≠ .brake → t.port p = s.port p

theorem State.offerFriction_offered (s : State) : s.frictionOffered s.offerFriction := by
  obtain ⟨sends, stays⟩ := s.offerFriction_cases
  by_cases sent : (s.port .brake).state = .up ∧ s.blend.frictionCopy ≠ some s.blend.result.frictionFigures
  · obtain ⟨up, differs⟩ := sent
    rw [sends up differs]
    refine ⟨rfl, fun _ _ => ⟨rfl, ?_⟩, fun stay => stay.elim (absurd up) (absurd · differs), fun p => ?_, fun p ne => ?_⟩
    · exact State.mem_submit s _ up
    · exact State.submit_port_eq s _ p _
    · exact State.submit_port_other s _ ne
  · rw [stays (by tauto)]
    exact ⟨rfl, fun up differs => absurd ⟨up, differs⟩ sent, fun _ => ⟨rfl, rfl⟩, fun p => rfl, fun p _ => rfl⟩

/-! ### The runs -/

/-- The time since the last run, where the count has not wrapped (section 0-6). -/
theorem elapsed_eq_sub {now earlier : Nat} (order : earlier ≤ now) (bound : now < 4294967296) : elapsed now earlier = now - earlier := by
  have wrap : wrapMs = 4294967296 := rfl
  rw [elapsed, wrap]
  omega

/-- The state in which a run offers its commands: the result recorded, the hand-off raised (R114). -/
def State.recordRun (s : State) (periodic : Bool) : State :=
  let run := s.blendInputs.run s.settings periodic
  { s.raise (.frictionHandOff s.blend.result.wheels (elapsed s.ms s.blend.lastRun)) with
    blend := { s.blend with
      result := run.result
      step := run.step
      clipped := run.clipped
      forced := s.blendInputs.causes
      lastRun := s.ms } }

theorem State.blendRun_eq (s : State) (periodic : Bool) : s.blendRun periodic = (s.recordRun periodic).offerRegen.offerFriction := rfl

theorem State.blendRun_ran (s : State) (periodic : Bool) : s.blendRan (s.blendRun periodic) periodic := by
  have frame := (within_blendRun s periodic).1
  have signals : (s.blendRun periodic).signals = (s.recordRun periodic).signals :=
    (((within_offerRegen _).mono (by decide)).trans ((within_offerFriction _).mono (by decide)) :
      Tidy [.blend, .ports] (s.recordRun periodic) (s.blendRun periodic)).1 .signals (by decide)
  rw [State.blendRun_eq] at frame signals ⊢
  have regen := (s.recordRun periodic).offerRegen_offered
  have friction := (s.recordRun periodic).offerRegen.offerFriction_offered
  generalize (s.recordRun periodic).offerRegen = m at regen friction frame signals ⊢
  generalize m.offerFriction = t at friction frame signals ⊢
  have traction : t.port .traction = m.port .traction := friction.others .traction (by decide)
  have brake : m.port .brake = s.port .brake := regen.others .brake (by decide)
  have copy : t.blend.regenCopy = m.blend.regenCopy := by rw [friction.blend]
  have before : m.blend.frictionCopy = s.blend.frictionCopy := by rw [regen.blend]; rfl
  have result : t.blend.result = m.blend.result := by rw [friction.blend]
  have recorded : m.blend.result = (s.recordRun periodic).blend.result := by rw [regen.blend]
  refine ⟨⟨s.blendInputs, ?_, rfl, rfl, isUp_iff s _, rfl, rfl, rfl, ?_⟩, ⟨_, signals, elapsed_eq_sub⟩, ?_, ?_, fun p => ?_,
    ⟨?_, ?_⟩, frame⟩
  · cases held : s.view.traction <;> simp [State.blendInputs, held]
  · rw [friction.blend, regen.blend]
    rfl
  · have sent := regen.sent
    have kept := regen.kept
    rw [← recorded, ← result, ← copy, ← traction] at sent kept
    exact ⟨sent, kept⟩
  · have sent := friction.sent
    have kept := friction.kept
    rw [brake, before, ← result] at sent kept
    exact ⟨sent, kept⟩
  · rw [friction.queues p, regen.queues p]
    rfl
  · rw [friction.others _ (by decide), regen.others _ (by decide)]
    rfl
  · rw [friction.others _ (by decide), regen.others _ (by decide)]
    rfl

/-- Settles O48: each event's case, with the run it takes. -/
theorem blendRunsAreTaken : Obligations.BlendRunsAreTaken := by
  refine ⟨fun s => ?_, fun s => ⟨_, rfl, State.blendRun_ran _ _⟩, fun p now s => ?_, fun level s => rfl⟩
  · by_cases runs : s.blend.timer.isRunning = true
    · have ran : exec .blendTimerExpiry s =
          .next (({ s with blend := { s.blend with timer := .running s.settings.blendPeriod } }).blendRun true) := if_pos runs
      exact ⟨_, ran, fun stopped => absurd runs (not_isRunning_of_stopped stopped), fun _ => State.blendRun_ran _ _⟩
    · have ran : exec .blendTimerExpiry s = .next s := if_neg runs
      exact ⟨_, ran, fun _ => rfl, fun h => absurd (Timer.isRunning_iff.2 h) runs⟩
  · by_cases up : now = .up
    · have ran : exec (.portStateBlend p now) s =
          .next { s.consume (.portStateBlend p now) with blend := s.blend.forget p } := if_pos up
      refine ⟨_, ran, fun _ traction => ?_, fun _ brake => ?_, fun h => absurd up h, fun untouched => ?_⟩
      · rw [traction]
        rfl
      · rw [brake]
        rfl
      · rcases untouched with (rfl | rfl) | ⟨-, h⟩
        · rfl
        · rfl
        · exact absurd up h
    · by_cases brake : p = .brake
      · have ran : exec (.portStateBlend p now) s = .next ((s.consume (.portStateBlend p now)).blendRun false) :=
          (if_neg up).trans (if_pos brake)
        refine ⟨_, ran, fun h => absurd h up, fun h => absurd h up, fun _ _ => State.blendRun_ran _ _, ?_⟩
        rw [brake]
        rintro ((h | h) | ⟨h, -⟩) <;> exact nomatch h
      · have ran : exec (.portStateBlend p now) s = .next (s.consume (.portStateBlend p now)) := (if_neg up).trans (if_neg brake)
        exact ⟨_, ran, fun h => absurd h up, fun h => absurd h up, fun _ h => absurd h brake, fun _ => rfl⟩

end Sys2Proof.Machine

/-! ## The Wear Unit's hand-offs and items (chapters 7 and 8) -/

namespace Sys2Proof.Machine

/-! ### Replacing the wheel ends (R122, R125) -/

theorem mem_wheelChanges {w : Wheel} {old new : WheelEnd} {l : OwnerLevel} :
    l ∈ wheelChanges w old new ↔
      (l = .padGrade w new.grade ∧ new.grade ≠ old.grade) ∨ (l = .fade w new.fade ∧ new.fade ≠ old.fade) := by
  simp only [wheelChanges, List.mem_append, eq_comm (a := old.grade), eq_comm (a := old.fade)]
  refine or_congr ?_ ?_ <;> split <;> simp_all

theorem Wheel.mem_all (w : Wheel) : w ∈ Wheel.all := by cases w <;> decide

theorem anyFadeOf_iff (x : Six WheelEnd) : anyFadeOf x = true ↔ ∃ w, (x.get w).fade = true := by
  simp only [anyFadeOf, Bool.or_eq_true]
  refine ⟨?_, fun ⟨w, h⟩ => ?_⟩
  · rintro (((((h | h) | h) | h) | h) | h)
    · exact ⟨.l1, h⟩
    · exact ⟨.r1, h⟩
    · exact ⟨.l2, h⟩
    · exact ⟨.r2, h⟩
    · exact ⟨.l3, h⟩
    · exact ⟨.r3, h⟩
  · cases w <;> simp only [Six.get] at h <;> simp only [h, or_true, true_or]

/-- Wheel ends replaced in a state whose records, but for the cooling timer, and whose signals are those of the state before. -/
theorem State.setWheels_handed {s u : State} (records : { u.wear with cooling := s.wear.cooling } = s.wear)
    (signals : u.signals = s.signals) (x : Six WheelEnd) : s.wheelsHanded (u.setWheels x) := by
  have wheels : u.wear.wheels = s.wear.wheels := by rw [← records]
  have any : u.wear.anyFade = s.wear.anyFade := by rw [← records]
  refine ⟨?_, ?_, ?_, Wheel.all.flatMap fun w => wheelChanges w (u.wear.wheels.get w) (x.get w), ?_, fun l => ?_⟩
  · rw [State.setWheels_wear]
    exact anyFadeOf_iff x
  · rw [State.setWheels_wear, ← records]
  · rw [State.setWheels_wear, ← records]
  · rw [State.setWheels_wear, ← signals, ← any]
    simp only [State.setWheels, State.raiseIf_signals, State.handLevels_signals, bne_iff_ne, ne_eq, ite_not]
  · rw [State.setWheels_wear, List.mem_flatMap, wheels]
    simp only [Wheel.mem_all, true_and, mem_wheelChanges]

theorem State.wheelsHanded.congr {s t u : State} (h : s.wheelsHanded t) (wear : u.wear = t.wear) (signals : u.signals = t.signals) :
    s.wheelsHanded u := by
  rw [State.wheelsHanded, wear, signals]
  exact h

@[simp] theorem State.requestWearSave_signals (s : State) : s.requestWearSave.signals = s.signals :=
  (within_requestWearSave s).1 .signals (by decide)

/-- A wear save begins when no write goes on, and is remembered else (R166). -/
theorem State.saveRequested_of {s u : State} (store : u.store = s.store) : s.saveRequested u.requestWearSave := by
  refine ⟨fun free => ⟨u.wear.contents, ?_, ?_⟩, fun notIdle notFailed => ?_⟩
  · rw [State.requestWearSave_wear]
    exact WearUnit.contents_takenFrom u.wear
  · rcases free with idle | failed
    · simp only [State.requestWearSave, store, idle]
    · simp only [State.requestWearSave, store, failed]
  · cases phase : s.store.phase with
    | idle => exact absurd phase notIdle
    | failed => exact absurd phase notFailed
    | writingSettings x => simp only [State.requestWearSave, store, phase]
    | writingWear x => simp only [State.requestWearSave, store, phase]

/-! ### Replacing the battery and engine records (R132 to R134) -/

theorem derateOf_eq (grade : Nat) :
    derateOf grade = if grade < 4 then 0 else if grade = 4 then 5 else if grade = 5 then 10 else if grade = 6 then 15 else 20 := by
  by_cases small : grade < 7
  · interval_cases grade <;> rfl
  · rw [if_neg (by omega), if_neg (by omega), if_neg (by omega), if_neg (by omega)]
    unfold derateOf
    split <;> first | rfl | omega

theorem batteryRecord_figured (account residue life : Nat) : (batteryRecord account residue life).figured := ⟨rfl, derateOf_eq _⟩

theorem engineRecord_figured (account life : Nat) : (engineRecord account life).figured := ⟨rfl, rfl⟩

theorem State.setBattery_handed {s : State} {b : BatteryRecord} (figured : b.figured) : s.batteryHanded (s.setBattery b) := by
  refine ⟨?_, ?_, ?_⟩
  · rw [State.setBattery_wear]
  · rw [State.setBattery_wear]
    exact figured
  · rw [State.setBattery_wear]
    simp only [State.setBattery, State.raiseIf_signals, decide_eq_true_eq, ne_eq, ite_not]

theorem State.setEngine_handed {s : State} {e : EngineRecord} (figured : e.figured) : s.engineHanded (s.setEngine e) := by
  refine ⟨?_, ?_, ?_⟩
  · rw [State.setEngine_wear]
  · rw [State.setEngine_wear]
    exact figured
  · rw [State.setEngine_wear]
    simp only [State.setEngine, State.raiseIf_signals, decide_eq_true_eq, ne_eq, ite_not]

theorem State.batterySaved_handed {s : State} {b : BatteryRecord} (figured : b.figured) :
    s.batteryHanded (s.setBattery b).requestWearSave := by
  rw [State.batteryHanded, State.requestWearSave_wear, State.requestWearSave_signals]
  exact State.setBattery_handed figured

theorem State.engineSaved_handed {s : State} {e : EngineRecord} (figured : e.figured) :
    s.engineHanded (s.setEngine e).requestWearSave := by
  rw [State.engineHanded, State.requestWearSave_wear, State.requestWearSave_signals]
  exact State.setEngine_handed figured

@[simp] theorem State.setWheels_store (s : State) (x : Six WheelEnd) : (s.setWheels x).store = s.store :=
  (within_setWheels s x).1 .store (by decide)

@[simp] theorem State.setBattery_store (s : State) (b : BatteryRecord) : (s.setBattery b).store = s.store :=
  (within_setBattery s b).1 .store (by decide)

@[simp] theorem State.setEngine_store (s : State) (e : EngineRecord) : (s.setEngine e).store = s.store :=
  (within_setEngine s e).1 .store (by decide)

/-! ### Heat and wear (R122 to R125) -/

theorem WheelEnd.refade_flagged (e : WheelEnd) (x : Settings) : (e.refade x.fadeThreshold).flagged x := decide_eq_true_iff

/-- A second's cooling takes the temperature no further than 0 (R123). -/
theorem cooled_cases (k : Nat) (ambient : Int) (theta : Nat) :
    (ambient < theta → (cooled k ambient theta : Int) = max 0 (theta - (theta - ambient) * k / 256)) ∧
      ((theta : Int) ≤ ambient → cooled k ambient theta = theta) := by
  refine ⟨fun above => ?_, fun below => if_neg (not_lt.2 below)⟩
  rw [cooled, if_pos above]
  have gives : 0 ≤ ((theta : Int) - ambient) * k / 256 :=
    Int.ediv_nonneg (Int.mul_nonneg (by omega) (Int.natCast_nonneg k)) (by decide)
  omega

/-- What one second's cooling leaves of a disc, at the factor of the speed and the ambient (R123, R125). -/
def WheelEnd.coolBy (k : Nat) (x : Settings) (e : WheelEnd) : WheelEnd :=
  ({ e with theta := cooled k (16 * x.ambient) e.theta }).refade x.fadeThreshold

/-- A second's cooling of the six discs, the timer restarted (R123). -/
def State.coolDiscs (s : State) : State :=
  ({ s with wear := { s.wear with cooling := Timer.seconds 1 } }).setWheels (s.wear.wheels.map
    (WheelEnd.coolBy (coolingFactor (match s.view.traction with | some p => p.content.v | none => 0)) s.settings))

theorem execCoolingTimerExpiry_eq (s : State) :
    exec .coolingTimerExpiry s = if s.wear.cooling.isRunning then .next s.coolDiscs else .next s := rfl

theorem coolingFactor_eq (v : Nat) : (coolingFactor v : Int) = if v < 10 then 1 else if v < 100 then 2 else 3 := by
  unfold coolingFactor
  split
  · rfl
  · split <;> rfl

/-- Settles O49: each disc's figures, and the hand-off of what changed. -/
theorem frictionHeatsWearsAndDiscsCool : Obligations.FrictionHeatsWearsAndDiscsCool := by
  refine ⟨fun powers ms s => ?_, fun s => ?_⟩
  · refine ⟨_, rfl, within_of_exec (c := .frictionHandOff powers ms) rfl, ?_, State.setWheels_handed rfl rfl _, fun w => ?_⟩
    · rw [State.setWheels_wear]
      rfl
    · rw [State.setWheels_wear, sixOf_get]
      exact ⟨rfl, rfl, rfl, rfl, rfl, rfl, WheelEnd.refade_flagged _ _⟩
  · by_cases runs : s.wear.cooling.isRunning = true
    · have ran : exec .coolingTimerExpiry s = .next s.coolDiscs := (execCoolingTimerExpiry_eq s).trans (if_pos runs)
      refine ⟨_, ran, within_of_exec ran, fun stopped => absurd runs (not_isRunning_of_stopped stopped), fun _ =>
        ⟨?_, State.setWheels_handed rfl rfl _, fun w => ?_⟩⟩
      · rw [State.coolDiscs, State.setWheels_wear]
        rfl
      · rw [State.coolDiscs, State.setWheels_wear, Six.get_map]
        dsimp only
        rw [← coolingFactor_eq]
        obtain ⟨above, below⟩ := cooled_cases (coolingFactor (match s.view.traction with | some p => p.content.v | none => 0))
          (16 * s.settings.ambient) (s.wear.wheels.get w).theta
        exact ⟨rfl, WheelEnd.refade_flagged _ _, above, below⟩
    · have ran : exec .coolingTimerExpiry s = .next s := (execCoolingTimerExpiry_eq s).trans (if_neg runs)
      exact ⟨_, ran, Within.refl _ _, fun _ => rfl, fun h => absurd (Timer.isRunning_iff.2 h) runs⟩

/-- Settles O50: by whether the hand-off is counted. -/
theorem packAndStartHandOffsAreCounted : Obligations.PackAndStartHandOffsAreCounted := by
  refine ⟨fun pPack temp dt s => ?_, fun points s => ?_⟩
  · let a := s.consume (.packHandOff pPack temp dt)
    by_cases counts : s.loaded = true ∧ dt ≠ 0 ∧ pPack ≠ 0
    · have ran : exec (.packHandOff pPack temp dt) s =
          .next (a.setBattery (s.wear.battery.pass (packWeight s.settings pPack temp * (pPack.natAbs * dt)))) := if_pos counts
      refine ⟨_, ran, within_of_exec ran, fun none => absurd counts (by rcases none with h | h | h <;> simp [h]), fun _ _ _ =>
        ⟨State.setBattery_handed (batteryRecord_figured _ _ _), ?_⟩⟩
      have weight : packWeight s.settings pPack temp =
          (if (s.settings.highRate : Int) < max pPack (-pPack) then 2 else 1) * (if s.settings.packHot < temp then 2 else 1) := by
        have size : (s.settings.highRate : Int) < max pPack (-pPack) ↔ s.settings.highRate < pPack.natAbs := by omega
        simp only [packWeight, size]
      rw [State.setBattery_wear]
      dsimp only
      rw [← weight]
      exact ⟨rfl, rfl, rfl⟩
    · have ran : exec (.packHandOff pPack temp dt) s = .next a := if_neg counts
      exact ⟨_, ran, within_of_exec ran, fun _ => rfl, fun load time power => absurd ⟨load, time, power⟩ counts⟩
  · let a := s.consume (.startPointsHandOff points)
    by_cases load : s.loaded = true
    · have ran : exec (.startPointsHandOff points) s =
          .next (a.setEngine (engineRecord (min 65535 (s.wear.engine.account + points)) s.wear.engine.life)) := if_pos load
      refine ⟨_, ran, within_of_exec ran, fun unloaded => absurd load (by simp [unloaded]), fun _ =>
        ⟨State.setEngine_handed (engineRecord_figured _ _), ?_⟩⟩
      rw [State.setEngine_wear]
      exact ⟨rfl, rfl⟩
    · have ran : exec (.startPointsHandOff points) s = .next a := if_neg load
      exact ⟨_, ran, within_of_exec ran, fun _ => rfl, fun h => absurd h load⟩

/-! ### Items (R126 to R128, R135, R136) -/

/-- Settles O52: each write and reset makes the record anew from its account and life. -/
theorem batteryAndEngineItemsAreWrittenAndReset : Obligations.BatteryAndEngineItemsAreWrittenAndReset := by
  refine ⟨fun value s => ?_, fun value s => ?_, fun value s => ?_, fun value s => ?_, fun s => ?_, fun s => ?_⟩
  · have tidy := within_batterySaved s (batteryRecord (writtenIn 0 4294967295 value).value.toNat 0 s.wear.battery.life)
    refine ⟨_, s.writeBatteryAccountOp value, rfl, rfl, tidy.1, State.batterySaved_handed (batteryRecord_figured _ _ _),
      State.saveRequested_of (State.setBattery_store _ _), State.writeDone_replies (tidy.1 .svc (by decide)) _ (by decide) value, ?_⟩
    rw [State.writeBatteryAccountOp, State.requestWearSave_wear, State.setBattery_wear, ← writtenIn_value (by decide)]
    exact ⟨rfl, rfl, rfl⟩
  · have tidy := within_batterySaved s (batteryRecord s.wear.battery.account s.wear.battery.residue
      (writtenIn 1 100000000 value).value.toNat)
    refine ⟨_, s.writeBatteryLifeOp value, rfl, rfl, tidy.1, State.batterySaved_handed (batteryRecord_figured _ _ _),
      State.saveRequested_of (State.setBattery_store _ _), State.writeDone_replies (tidy.1 .svc (by decide)) _ (by decide) value, ?_⟩
    rw [State.writeBatteryLifeOp, State.requestWearSave_wear, State.setBattery_wear, ← writtenIn_value (by decide)]
    exact ⟨rfl, rfl, rfl⟩
  · have tidy := within_engineSaved s (engineRecord (writtenIn 0 65535 value).value.toNat s.wear.engine.life)
    refine ⟨_, s.writeEngineAccountOp value, rfl, rfl, tidy.1, State.engineSaved_handed (engineRecord_figured _ _),
      State.saveRequested_of (State.setEngine_store _ _), State.writeDone_replies (tidy.1 .svc (by decide)) _ (by decide) value, ?_⟩
    rw [State.writeEngineAccountOp, State.requestWearSave_wear, State.setEngine_wear, ← writtenIn_value (by decide)]
    exact ⟨rfl, rfl⟩
  · have tidy := within_engineSaved s (engineRecord s.wear.engine.account (writtenIn 1 65535 value).value.toNat)
    refine ⟨_, s.writeEngineLifeOp value, rfl, rfl, tidy.1, State.engineSaved_handed (engineRecord_figured _ _),
      State.saveRequested_of (State.setEngine_store _ _), State.writeDone_replies (tidy.1 .svc (by decide)) _ (by decide) value, ?_⟩
    rw [State.writeEngineLifeOp, State.requestWearSave_wear, State.setEngine_wear, ← writtenIn_value (by decide)]
    exact ⟨rfl, rfl⟩
  · have tidy := within_batterySaved s (batteryRecord 0 0 s.wear.battery.life)
    refine ⟨_, _, rfl, rfl, tidy.1, State.batterySaved_handed (batteryRecord_figured _ _ _),
      State.saveRequested_of (State.setBattery_store _ _), State.serviceDone_replies (tidy.1 .svc (by decide)) _ _, ?_⟩
    rw [State.requestWearSave_wear, State.setBattery_wear]
    exact ⟨rfl, rfl, rfl⟩
  · have tidy := within_engineSaved s (engineRecord 0 s.wear.engine.life)
    refine ⟨_, _, rfl, rfl, tidy.1, State.engineSaved_handed (engineRecord_figured _ _),
      State.saveRequested_of (State.setEngine_store _ _), State.serviceDone_replies (tidy.1 .svc (by decide)) _ _, ?_⟩
    rw [State.requestWearSave_wear, State.setEngine_wear]
    exact ⟨rfl, rfl⟩

theorem onWheels_other (x : Six WheelEnd) (f : WheelEnd → WheelEnd) {w k : Wheel} {copy : Bool} (one : copy = false) (ne : k ≠ w) :
    (onWheels x w copy f).get k = x.get k := by
  rw [onWheels_get, if_neg (by simp [one, ne])]

theorem onWheels_taken (x : Six WheelEnd) (f : WheelEnd → WheelEnd) {w k : Wheel} {copy : Bool} (taken : copy = true ∨ k = w) :
    (onWheels x w copy f).get k = f (x.get k) := by
  rw [onWheels_get, if_pos taken]

/-- Heat capacities written at one wheel end, or with COPY at all six (R127). -/
theorem heatCapacity_get (x : Six Nat) (w : Wheel) (copy : Bool) (c : Nat) (k : Wheel) :
    (if copy then Six.fill c else x.set w c).get k = if copy = true ∨ k = w then c else x.get k := by
  cases copy with
  | true => cases k <;> rfl
  | false => cases w <;> cases k <;> rfl

theorem WheelEnd.renew_eq (e : WheelEnd) (x : Settings) :
    e.renew x = { e with
      account := 0, residue := 0, grade := 0, fade := (e.renew x).fade
      theta := if e.theta < 16 * x.warmThreshold then (16 * x.ambient).toNat else e.theta
      heat := if e.theta < 16 * x.warmThreshold then 0 else e.heat } := by
  have zero : ∀ life, padGrade 0 life = 0 := fun life => by simp [padGrade, gradeOf]
  unfold WheelEnd.renew WheelEnd.regrade WheelEnd.refade ambientTheta
  split <;> simp only [zero]

theorem Wheel.ofIndex_of_lt {n : Nat} (h : 5 < n) : Wheel.ofIndex n = none := by
  unfold Wheel.ofIndex
  split <;> first | rfl | omega

theorem Wheel.ofIndex_index (w : Wheel) : Wheel.ofIndex w.index = some w := by cases w <;> rfl

theorem execWearResetPad_of {n : Nat} {w : Wheel} (h : Wheel.ofIndex n = some w) (copy : Bool) (s : State) :
    exec (.wearResetPad n copy) s = .next ((s.resetPads w copy).serviceDone (.wearResetPad n copy) 0x63) := by
  simp only [exec, execWearResetPad, h]

/-- Settles O51: each write as a change of the wheel ends it takes. -/
theorem wheelItemsAreWrittenAndReset : Obligations.WheelItemsAreWrittenAndReset := by
  refine ⟨fun w copy value s => ?_, fun w copy value s => ?_, fun w copy value s => ?_, fun value s => ?_, fun n copy s => ?_⟩
  · have tidy := within_wheelsSaved s (onWheels s.wear.wheels w copy fun e =>
      ({ e with account := (writtenIn 0 4294967295 value).value.toNat, residue := 0 }).regrade)
    refine ⟨_, s.writePadAccountOp w copy value, rfl, rfl, tidy.1,
      State.writeDone_replies (tidy.1 .svc (by decide)) _ (by decide) value,
      (State.setWheels_handed rfl rfl _).congr (State.requestWearSave_wear _) (State.requestWearSave_signals _), ?_,
      State.saveRequested_of (State.setWheels_store _ _), fun x => ?_⟩
    · rw [State.writePadAccountOp, State.requestWearSave_wear, State.setWheels_wear]
    · rw [State.writePadAccountOp, State.requestWearSave_wear, State.setWheels_wear, ← writtenIn_value (by decide)]
      refine ⟨onWheels_other _ _, fun taken => ?_⟩
      dsimp only
      rw [onWheels_taken _ _ taken]
      exact ⟨rfl, rfl⟩
  · have tidy := within_wheelsSaved s (onWheels s.wear.wheels w copy fun e =>
      ({ e with life := (writtenIn 1 65535 value).value.toNat }).regrade)
    refine ⟨_, s.writePadLifeOp w copy value, rfl, rfl, tidy.1,
      State.writeDone_replies (tidy.1 .svc (by decide)) _ (by decide) value,
      (State.setWheels_handed rfl rfl _).congr (State.requestWearSave_wear _) (State.requestWearSave_signals _), ?_,
      State.saveRequested_of (State.setWheels_store _ _), fun x => ?_⟩
    · rw [State.writePadLifeOp, State.requestWearSave_wear, State.setWheels_wear]
    · rw [State.writePadLifeOp, State.requestWearSave_wear, State.setWheels_wear, ← writtenIn_value (by decide)]
      refine ⟨onWheels_other _ _, fun taken => ?_⟩
      dsimp only
      rw [onWheels_taken _ _ taken]
      exact ⟨rfl, rfl⟩
  · have tidy := within_writeHeatCapacityOp s w copy value
    have settings := writeHeatCapacityOp_settings s w copy value
    refine ⟨_, s.writeHeatCapacityOp w copy value, rfl, rfl, tidy.1,
      State.writeDone_replies (tidy.1 .svc (by decide)) _ (by decide) value, State.setWheels_handed rfl rfl _, ?_, ?_, fun x => ?_⟩
    · rw [State.writeHeatCapacityOp, State.setWheels_wear]
    · rw [settings]
    · rw [settings, State.writeHeatCapacityOp, State.setWheels_wear, ← writtenIn_value (by decide)]
      dsimp only
      rw [heatCapacity_get]
      refine ⟨fun one ne => ⟨onWheels_other _ _ one ne, if_neg (by simp [one, ne])⟩, fun taken => ⟨if_pos taken, ?_⟩⟩
      rw [onWheels_taken _ _ taken]
      exact ⟨WheelEnd.refade_flagged _ _, rfl⟩
  · have tidy := within_writeFadeThresholdOp s value
    have settings := writeFadeThresholdOp_settings s value
    refine ⟨_, s.writeFadeThresholdOp value, rfl, rfl, tidy.1,
      State.writeDone_replies (tidy.1 .svc (by decide)) _ (by decide) value, State.setWheels_handed rfl rfl _, ?_, ?_, fun x => ?_⟩
    · rw [State.writeFadeThresholdOp, State.setWheels_wear]
    · rw [settings, writtenIn_value (by decide)]
    · rw [settings, State.writeFadeThresholdOp, State.setWheels_wear, Six.get_map]
      exact ⟨WheelEnd.refade_flagged _ { s.settings with fadeThreshold := (writtenIn 0 1023 value).value.toNat }, rfl⟩
  · cases named : Wheel.ofIndex n with
    | none =>
      have ran : exec (.wearResetPad n copy) s = .next (s.serviceAnswer (.wearResetPad n copy) 0x63 (.refused .unknownItem)) := by
        simp only [exec, execWearResetPad, named]
      refine ⟨_, s, ran, rfl, Within.refl _ _, fun _ => ⟨rfl, State.serviceAnswer_replies rfl _ _ _ _ _⟩, ?_⟩
      rintro w rfl
      rw [Wheel.ofIndex_index] at named
      exact nomatch named
    | some v =>
      have tidy := within_wheelsSaved s (onWheels s.wear.wheels v copy fun e => e.renew s.settings)
      refine ⟨_, s.resetPads v copy, execWearResetPad_of named copy s, rfl, tidy.1, fun none => ?_, ?_⟩
      · rw [Wheel.ofIndex_of_lt none] at named
        exact nomatch named
      · rintro w rfl
        obtain rfl : w = v := Option.some.inj ((Wheel.ofIndex_index w).symm.trans named)
        refine ⟨State.serviceDone_replies (tidy.1 .svc (by decide)) _ _,
          (State.setWheels_handed rfl rfl _).congr (State.requestWearSave_wear _) (State.requestWearSave_signals _), ?_,
          State.saveRequested_of (State.setWheels_store _ _), fun x => ?_⟩
        · rw [State.resetPads, State.requestWearSave_wear, State.setWheels_wear]
        · rw [State.resetPads, State.requestWearSave_wear, State.setWheels_wear]
          refine ⟨onWheels_other _ _, fun taken => ?_⟩
          dsimp only
          rw [onWheels_taken _ _ taken]
          exact ⟨WheelEnd.refade_flagged _ _, WheelEnd.renew_eq _ _⟩

end Sys2Proof.Machine

/-! ## Levels, latches, delivery, the summaries and the line (chapter 9) -/

namespace Sys2Proof.Machine

/-! ### Sets of codes (R143 to R145) -/

/-- Two sets of bits meet. -/
theorem and_ne_zero_iff {w : Nat} (x y : BitVec w) :
    (x &&& y != 0#w) = true ↔ ∃ i : Nat, i < w ∧ x.getLsbD i = true ∧ y.getLsbD i = true := by
  rw [bne_iff_ne]
  refine ⟨fun ne => ?_, fun ⟨i, _, hx, hy⟩ zero => ?_⟩
  · by_contra apart
    push Not at apart
    refine ne (BitVec.eq_of_getLsbD_eq fun i inside => ?_)
    rw [BitVec.getLsbD_and, BitVec.getLsbD_zero]
    cases hx : x.getLsbD i with
    | false => rfl
    | true => simpa using apart i inside hx
  · have bit := congrArg (·.getLsbD i) zero
    simp [hx, hy] at bit

/-- The codes whose masks hold a bit, counted from any place on. -/
theorem maskedCodes_getLsbD (which : Nat) (ms : List (BitVec 5)) :
    ∀ i j, j < 24 → ((maskedCodes which i ms).getLsbD j = true ↔ i ≤ j ∧ (ms.getD (j - i) 0#5).getLsbD which = true) := by
  induction ms with
  | nil => intro i j inside; simp [maskedCodes]
  | cons m ms ih =>
    intro i j inside
    rw [maskedCodes, setBit_getLsbD _ _ _ inside]
    by_cases here : j = i
    · simp [here]
    · rw [if_neg here, ih (i + 1) j inside]
      by_cases after : i + 1 ≤ j
      · have place : j - i = j - (i + 1) + 1 := by omega
        rw [place, List.getD_cons_succ]
        exact and_congr_left fun _ => by omega
      · have before : ¬ i ≤ j := by omega
        simp [after, before]

theorem maskedCodes_zero_getLsbD (which : Nat) (ms : List (BitVec 5)) {j : Nat} (inside : j < 24) :
    (maskedCodes which 0 ms).getLsbD j = true ↔ (ms.getD j 0#5).getLsbD which = true := by
  simpa using maskedCodes_getLsbD which ms 0 j inside

/-- A summary is set exactly when a latch of its group is (R145). -/
theorem group_iff (latched mask : BitVec 24) (lo hi : Nat) (bits : ∀ i : Nat, i < 24 → (mask.getLsbD i = true ↔ lo ≤ i ∧ i < hi))
    (inside : hi ≤ 24) : (latched &&& mask != 0#24) = true ↔ ∃ i : Nat, lo ≤ i ∧ i < hi ∧ latched.getLsbD i = true := by
  rw [and_ne_zero_iff]
  constructor
  · rintro ⟨i, h, on, member⟩
    obtain ⟨above, below⟩ := (bits i h).1 member
    exact ⟨i, above, below, on⟩
  · rintro ⟨i, above, below, on⟩
    exact ⟨i, by omega, on, (bits i (by omega)).2 ⟨above, below⟩⟩

theorem refreshWarnings_summarised (s : State) : s.refreshWarnings.summarised := by
  refine ⟨?_, group_iff _ _ 12 17 (by decide) (by decide), group_iff _ _ 17 21 (by decide) (by decide),
    group_iff _ _ 21 23 (by decide) (by decide), ?_⟩
  · have first := group_iff s.warn.latched 0x000FFF#24 0 12 (by decide) (by decide)
    simp only [Nat.zero_le, true_and] at first
    exact first
  · change serviceLineLow s.settings s.warn.latched = true ↔ _
    rw [serviceLineLow, Bool.and_eq_true, Bool.not_eq_true', and_ne_zero_iff]
    refine and_congr_right fun _ => exists_congr fun i => and_congr_right fun inside => and_congr_right fun _ => ?_
    exact maskedCodes_zero_getLsbD 4 _ inside

/-! ### Delivery (R143) -/

/-- A port told of a warning: if it is UP and the warning's mask includes it. -/
def PartnerPort.told (pp : PartnerPort) (mask : BitVec 5) (p : Port) (n : Notice) : PartnerPort :=
  if mask.getLsbD (maskBit p) && pp.state == .up then pp.submit n else pp

/-- The notice of a warning for a port: with the warnings latched whose masks include the port. -/
def State.warningNotice (s : State) (code : Nat) (p : Port) : Notice :=
  .warning code (s.warn.latched &&& maskedCodes (maskBit p) 0 s.settings.masks)

/-- One port's part of a delivery. -/
def State.deliverTo (t : State) (code : Nat) (mask : BitVec 5) (p : Port) : State :=
  if mask.getLsbD (maskBit p) && t.isUp p then t.submit p (t.warningNotice code p) else t

theorem deliverTo_port_self (t : State) (code : Nat) (mask : BitVec 5) (p : Port) :
    (t.deliverTo code mask p).port p = (t.port p).told mask p (t.warningNotice code p) := by
  unfold State.deliverTo PartnerPort.told
  rw [State.isUp]
  split
  · exact State.submit_port_self _ _ _
  · rfl

theorem deliverTo_port_other (t : State) (code : Nat) (mask : BitVec 5) {p q : Port} (ne : q ≠ p) :
    (t.deliverTo code mask p).port q = t.port q := by
  unfold State.deliverTo
  split
  · exact State.submit_port_other _ _ ne
  · rfl

theorem deliverTo_notice (t : State) (code : Nat) (mask : BitVec 5) (p q : Port) :
    (t.deliverTo code mask p).warningNotice code q = t.warningNotice code q := by
  unfold State.deliverTo
  split <;> rfl

/-- A delivery to distinct ports tells each of them once and leaves every other as it was. -/
theorem foldl_deliverTo_port (code : Nat) (mask : BitVec 5) (ps : List Port) (p : Port) :
    ∀ s : State, ps.Nodup → (ps.foldl (fun t q => t.deliverTo code mask q) s).port p =
      if p ∈ ps then (s.port p).told mask p (s.warningNotice code p) else s.port p := by
  induction ps with
  | nil => intro s _; rfl
  | cons q qs ih =>
    intro s distinct
    obtain ⟨fresh, distinct⟩ := List.nodup_cons.1 distinct
    rw [List.foldl_cons, ih _ distinct, deliverTo_notice]
    by_cases here : p = q
    · subst here
      rw [if_neg fresh, if_pos List.mem_cons_self, deliverTo_port_self]
    · rw [deliverTo_port_other _ _ _ here]
      simp only [List.mem_cons, here, false_or]

theorem deliver_port (s : State) (code : Nat) (p : Port) :
    (s.deliver code).port p = if s.settings.globalMask then s.port p
      else (s.port p).told (s.settings.masks.getD (code - 1) 0#5) p (s.warningNotice code p) := by
  unfold State.deliver
  split
  · rfl
  · have told := foldl_deliverTo_port code (s.settings.masks.getD (code - 1) 0#5) Port.all p s (by decide)
    rw [if_pos (by cases p <;> decide)] at told
    rw [← told]
    rfl

/-- A delivery tells the ports of R143. -/
theorem deliver_warned {s d m : State} {i : Nat} (ports : d.ports = s.ports) (settings : d.settings = s.settings)
    (after : m.ports = (d.deliver (i + 1)).ports) (latched : m.warn.latched = d.warn.latched) : s.warned m i := by
  intro p
  dsimp only
  rw [State.port_congr after, deliver_port, State.port_congr ports, settings]
  refine ⟨fun ⟨open_, up, member⟩ => ?_, fun untold => ?_⟩
  · have sends : (s.port p).told (s.settings.masks.getD i 0#5) p (d.warningNotice (i + 1) p) =
        (s.port p).submit (d.warningNotice (i + 1) p) := if_pos (by rw [Bool.and_eq_true, beq_iff_eq]; exact ⟨member, up⟩)
    rw [if_neg (by simp [open_]), Nat.add_sub_cancel, sends]
    refine ⟨PartnerPort.submit_eq _ _, d.warn.latched &&& maskedCodes p.index 0 s.settings.masks, ?_, fun j inside => ?_⟩
    · rw [PartnerPort.submit_queue (.inl up), ← settings]
      exact mem_enqueue _ _
    · rw [BitVec.getLsbD_and, Bool.and_eq_true, latched, maskedCodes_zero_getLsbD _ _ inside]
  · split
    · rfl
    · next shut =>
      refine if_neg fun sends => untold ?_
      rw [Bool.and_eq_true, beq_iff_eq] at sends
      exact ⟨by simpa using shut, sends.2, sends.1⟩

/-! ### A level taken (R140, R141) -/

theorem condition_place (x : Settings) (l : OwnerLevel) : (OwnerLevel.condition x l).1 = levelPlace l + 1 := by
  cases l <;> simp only [OwnerLevel.condition, levelPlace] <;> omega

theorem condition_holds (x : Settings) (l : OwnerLevel) : (OwnerLevel.condition x l).2 = true ↔ levelHolds x l := by
  cases l <;> simp only [OwnerLevel.condition, levelHolds, decide_eq_true_eq]

/-- The level moved to, with nothing else of the Warning Unit changed. -/
def State.withLevel (s : State) (place : Nat) (level : Bool) : State :=
  { s with warn := { s.warn with levels := setBit s.warn.levels place level } }

/-- The warning latched, before its delivery. -/
def State.withLatch (s : State) (place : Nat) : State :=
  { s with warn := { s.warn with latched := setBit s.warn.latched place true } }

/-- A level reaches the table: as it stood, moved, or moved and latched (R140, R141). -/
theorem setLevel_cases (s : State) (place : Nat) (level : Bool) :
    (s.warn.levels.getLsbD place = level → s.setLevel (place + 1) level = s) ∧
      (s.warn.levels.getLsbD place ≠ level →
        ((s.settings.edges.getD place .rise).hits level = true → s.warn.latched.getLsbD place = false →
          s.setLevel (place + 1) level = (((s.withLevel place level).withLatch place).deliver (place + 1)).refreshWarnings) ∧
        ((s.settings.edges.getD place .rise).hits level = false ∨ s.warn.latched.getLsbD place = true →
          s.setLevel (place + 1) level = s.withLevel place level)) := by
  refine ⟨fun same => if_pos same, fun moved => ?_⟩
  have moves : s.setLevel (place + 1) level =
      if (s.settings.edges.getD place .rise).hits level && !s.warn.latched.getLsbD place then
        (((s.withLevel place level).withLatch place).deliver (place + 1)).refreshWarnings
      else s.withLevel place level := if_neg moved
  rw [moves]
  refine ⟨fun hits unlatched => by rw [hits, unlatched]; rfl, fun silent => if_neg ?_⟩
  rcases silent with misses | latched
  · rw [misses]
    simp
  · rw [latched]
    simp

theorem hits_iff (e : Edge) (level : Bool) :
    e.hits level = true ↔ (match e with | .rise => level = true | .fall => ¬ level = true | .both => True) := by
  cases e <;> cases level <;> decide

theorem hits_eq_false_iff (e : Edge) (level : Bool) :
    e.hits level = false ↔ (match e with | .rise => ¬ level = true | .fall => level = true | .both => False) := by
  cases e <;> cases level <;> decide

/-- The place of a moved level is that level's, and every other place is as it was. -/
theorem withLevel_getLsbD (s : State) (place : Nat) (level : Bool) {j : Nat} (inside : j < 24) :
    ((s.withLevel place level).warn.levels.getLsbD j = true ↔ if j = place then level = true else s.warn.levels.getLsbD j = true) := by
  rw [State.withLevel, setBit_getLsbD _ _ _ inside]
  split <;> rfl

/-- After the delivery of a latch: the level moved, and its latch set. -/
theorem deliver_latched_warn (s : State) (place : Nat) (level : Bool) :
    let t := (((s.withLevel place level).withLatch place).deliver (place + 1)).refreshWarnings
    t.warn.levels = (s.withLevel place level).warn.levels ∧ t.warn.latched = setBit s.warn.latched place true := by
  have warn : (((s.withLevel place level).withLatch place).deliver (place + 1)).warn = ((s.withLevel place level).withLatch place).warn :=
    (within_deliver _ _).1 .warn (by decide)
  dsimp only [State.refreshWarnings]
  rw [warn]
  exact ⟨rfl, rfl⟩

theorem setLevel_leveled (s : State) (l : OwnerLevel) :
    s.leveled (s.setLevel (OwnerLevel.condition s.settings l).1 (OwnerLevel.condition s.settings l).2) l := by
  have holds := condition_holds s.settings l
  have frame := (within_setLevel s (OwnerLevel.condition s.settings l).1 (OwnerLevel.condition s.settings l).2).1
  rw [condition_place] at frame ⊢
  obtain ⟨stays, moves⟩ := setLevel_cases s (levelPlace l) (OwnerLevel.condition s.settings l).2
  generalize (OwnerLevel.condition s.settings l).2 = level at holds frame stays moves ⊢
  by_cases same : s.warn.levels.getLsbD (levelPlace l) = level
  · rw [stays same] at frame ⊢
    refine ⟨frame, fun _ => rfl, fun j inside => ?_, fun moved => absurd (by rw [same, holds]) moved, fun _ => rfl⟩
    split
    · next here => rw [here, same, holds]
    · rfl
  obtain ⟨latches, keeps⟩ := moves same
  have notSame : ¬ (s.warn.levels.getLsbD (levelPlace l) = true ↔ levelHolds s.settings l) := by
    rw [← holds, ← Bool.eq_iff_iff]
    exact same
  by_cases hits : (s.settings.edges.getD (levelPlace l) .rise).hits level = true ∧ s.warn.latched.getLsbD (levelPlace l) = false
  · obtain ⟨edge, unlatched⟩ := hits
    have result := latches edge unlatched
    refine ⟨frame, fun e => absurd e notSame, fun j inside => ?_, fun _ _ _ => ⟨fun j inside => ?_, ?_, ?_⟩, fun silent => ?_⟩
    · rw [result, (deliver_latched_warn s _ level).1, ← holds]
      exact withLevel_getLsbD s _ level inside
    · rw [result, (deliver_latched_warn s _ level).2, setBit_getLsbD _ _ _ inside]
      split <;> simp_all
    · rw [result]
      exact refreshWarnings_summarised _
    · rw [result]
      exact deliver_warned (d := (s.withLevel (levelPlace l) level).withLatch (levelPlace l)) rfl rfl rfl
        (deliver_latched_warn s _ level).2
    · rcases silent with latched | other
      · exact absurd latched (by simp [unlatched])
      · rw [← holds] at other
        have misses := (hits_eq_false_iff (s.settings.edges.getD (levelPlace l) .rise) level).2 other
        rw [misses] at edge
        exact nomatch edge
  · have silent := not_and_or.1 hits
    rw [Bool.not_eq_true, Bool.not_eq_false] at silent
    have result := keeps silent
    rw [result] at frame ⊢
    refine ⟨frame, fun e => absurd e notSame, fun j inside => ?_, fun _ edge unlatched => ?_, fun _ => rfl⟩
    · rw [← holds]
      exact withLevel_getLsbD s _ level inside
    · rw [← holds] at edge
      exact absurd ⟨(hits_iff (s.settings.edges.getD (levelPlace l) .rise) level).2 edge, unlatched⟩ hits

theorem takeLevels_leveledAll (s : State) (levels : List OwnerLevel) : s.leveledAll (s.takeLevels levels) levels := by
  induction levels generalizing s with
  | nil => rfl
  | cons l ls ih => exact ⟨_, setLevel_leveled s l, ih _⟩

/-- Settles O53: each level in turn. -/
theorem levelChangesLatchAndTell : Obligations.LevelChangesLatchAndTell := by
  intro levels s
  by_cases load : s.loaded = true
  · have ran : exec (.conditionLevelChange levels) s = .next ((s.consume (.conditionLevelChange levels)).takeLevels levels) :=
      if_pos load
    exact ⟨_, ran, fun unloaded => absurd load (by simp [unloaded]), fun _ => takeLevels_leveledAll _ _⟩
  · have ran : exec (.conditionLevelChange levels) s = .next (s.consume (.conditionLevelChange levels)) := if_neg load
    exact ⟨_, ran, fun _ => rfl, fun h => absurd h load⟩

/-- Settles O54: a clear by whether it names a code outside the table, a mask by its target, a warn grade by its kind. -/
theorem warningsAreClearedAndSet : Obligations.WarningsAreClearedAndSet := by
  refine ⟨fun codes s => ?_, fun target value s => ?_, fun kind value s => ?_⟩
  · by_cases outside : codes.getLsbD 23 = true
    · have ran : exec (.clearWarnings codes) s = .next (s.serviceAnswer (.clearWarnings codes) 0x62 (.refused .unknownItem)) :=
        if_pos outside
      exact ⟨_, s, ran, rfl, fun _ => ⟨rfl, State.serviceAnswer_replies rfl _ _ _ _ _⟩, fun h => absurd (h.symm.trans outside) Bool.false_ne_true⟩
    · let cleared : State := { s with warn := { s.warn with latched := s.warn.latched &&& ~~~codes } }
      have ran : exec (.clearWarnings codes) s = .next (cleared.refreshWarnings.serviceDone (.clearWarnings codes) 0x62) :=
        if_neg outside
      refine ⟨_, cleared.refreshWarnings, ran, rfl, fun h => absurd h outside, fun _ => ⟨?_, rfl, refreshWarnings_summarised _,
        fun i inside => ?_, State.serviceDone_replies rfl _ _⟩⟩
      · exact ((within_warn s _).1).trans (within_refreshWarnings cleared).1
      · change (s.warn.latched &&& ~~~codes).getLsbD i = true ↔ _
        simp [inside]
  · cases target with
    | code c =>
      refine ⟨_, s.writeMaskOp (.code c) value, rfl, rfl, ?_, rfl, rfl, refreshWarnings_summarised _, (fun e => nomatch e), ?_⟩
      · exact (within_writeMaskOp s (.code c) value).1
      · rintro _ ⟨⟩ _ _
        exact ⟨rfl, State.serviceAnswer_replies rfl _ _ _ _ _⟩
    | globalMask =>
      refine ⟨_, s.writeMaskOp .globalMask value, rfl, rfl, ?_, rfl, rfl, refreshWarnings_summarised _, fun _ => ⟨?_, ?_⟩,
        (fun _ e => nomatch e)⟩
      · exact (within_writeMaskOp s .globalMask value).1
      · have flag : (writtenIn 0 1 value).value = 1 ↔ 1 ≤ value := by
          rw [writtenIn_value (by decide)]
          omega
        simp only [State.writeMaskOp, State.refreshWarnings, flag]
      · exact State.writeDone_replies rfl _ (by decide) value
  · have tidy := within_writeWarnGradeOp s kind value
    refine ⟨_, s.writeWarnGradeOp kind value, rfl, rfl, tidy.1,
      State.writeDone_replies (tidy.1 .svc (by decide)) _ (by decide) value, ?_⟩
    rw [← writtenIn_value (by decide)]
    cases kind <;> exact takeLevels_leveledAll _ _

end Sys2Proof.Machine

/-! ## The Service port's link and the settings store (sections 11-2 and 11-5) -/

namespace Sys2Proof.Machine

/-! ### The link (R159, R160) -/

theorem carries_of_eq {out f g : List Byte} {n : Nat} (h : carries out f n) (same : f = g) : carries out g n := same ▸ h

theorem addressed_iff (s : State) (addr : Nat) : s.addressed addr = true ↔ s.loaded = true ∧ addr = s.svc.address := by
  rw [State.addressed, Bool.and_eq_true, beq_iff_eq, eq_comm (a := addr)]

theorem not_addressed {s : State} {addr : Nat} (h : s.loaded = false ∨ addr ≠ s.svc.address) : ¬ s.addressed addr = true := by
  rw [addressed_iff]
  rintro ⟨load, own⟩
  rcases h with unloaded | other
  · exact absurd (unloaded.symm.trans load) Bool.false_ne_true
  · exact other own

/-- A frame taken at the stop of a write: refused, answered at once, or in process (R159, R160). -/
theorem ServicePort.takeFrame_cases {v : ServicePort} (free : v.inProcess = none) (bytes : List Byte) :
    let t := v.takeFrame bytes
    t = { v with addressAck := true, dataAck := true, lastOut := [], reply := t.reply, inProcess := t.inProcess } ∧
      (∀ cls, checkFrame serviceLength bytes = .error cls → t.reply = some (.frameError cls) ∧ t.inProcess = none) ∧
      (∀ kind payload, checkFrame serviceLength bytes = .ok (kind, payload) →
        (∀ i, decodeService kind payload = some i → t.reply = none ∧ t.inProcess = some i) ∧
        (decodeService kind payload = none → t.reply = some (.answer 0x01 .done false []) ∧ t.inProcess = none)) := by
  dsimp only
  refine ⟨?_, fun cls bad => ?_, fun kind payload good => ⟨fun i named => ?_, fun nop => ?_⟩⟩
  · unfold ServicePort.takeFrame
    dsimp only
    split
    · rfl
    · split <;> rfl
  · simp only [ServicePort.takeFrame, bad]
    exact ⟨trivial, free⟩
  · simp only [ServicePort.takeFrame, good, named]
    exact ⟨trivial, trivial⟩
  · simp only [ServicePort.takeFrame, good, nop]
    exact ⟨trivial, free⟩

theorem serviceWrite_served (addr : Nat) (bytes : List Byte) (s : State) :
    (s.loaded = true → addr = s.svc.address →
      (∀ i, s.svc.inProcess = some i → exec (.serviceWrite addr bytes) s =
        .next (s.onSvc fun v => { v with addressAck := true, dataAck := false, lastOut := [] })) ∧
      (s.svc.inProcess = none → exec (.serviceWrite addr bytes) s = .next (s.onSvc fun v => v.takeFrame bytes))) ∧
    (s.loaded = false ∨ addr ≠ s.svc.address → exec (.serviceWrite addr bytes) s = .next (s.onSvc ServicePort.silent)) := by
  refine ⟨fun load own => ?_, fun other => if_neg (not_addressed other)⟩
  have at_ := (addressed_iff s addr).2 ⟨load, own⟩
  refine ⟨fun i busy => ?_, fun free => ?_⟩
  · simp only [exec, execServiceWrite, at_, busy, if_true]
  · simp only [exec, execServiceWrite, at_, free, if_true]

theorem serviceRead_served (addr n : Nat) (s : State) :
    (s.loaded = true → addr = s.svc.address →
      (∀ r, s.svc.reply = some r → exec (.serviceRead addr n) s = .next (s.onSvc fun v =>
        { (v.send (r.frame false) n) with reply := if (r.frame false).length ≤ n then none else some r })) ∧
      (∀ i, s.svc.reply = none → s.svc.inProcess = some i → exec (.serviceRead addr n) s = .next (s.onSvc fun v =>
        { v with addressAck := true, lastOut := [], hold := some n, holdTimer := .running 2 })) ∧
      (s.svc.reply = none → s.svc.inProcess = none → exec (.serviceRead addr n) s =
        .next (s.onSvc fun v => v.send (idleFrame .up s.cu.gate) n))) ∧
    (s.loaded = false ∨ addr ≠ s.svc.address → exec (.serviceRead addr n) s = .next (s.onSvc ServicePort.silent)) := by
  refine ⟨fun load own => ?_, fun other => if_neg (not_addressed other)⟩
  have at_ := (addressed_iff s addr).2 ⟨load, own⟩
  refine ⟨fun r waits => ?_, fun i none busy => ?_, fun none free => ?_⟩
  · simp only [exec, execServiceRead, at_, waits, if_true]
  · simp only [exec, execServiceRead, at_, none, busy, if_true]
  · simp only [exec, execServiceRead, at_, none, free, if_true]

/-- A reply placed while a read waits with the clock held is sent at once (R159). -/
theorem ServicePort.place_held {v : ServicePort} {request : Instr} {n : Nat} (r : Reply) (own : v.inProcess = some request)
    (held : v.hold = some n) :
    v.place request r = { v with
      inProcess := none, hold := none, holdTimer := .stopped, lastOut := clocked (r.frame false) n
      reply := if (r.frame false).length ≤ n then none else some r } := by
  simp only [ServicePort.place, own, held, or_true, if_true]

theorem gateCode_eq (g : Gate) : BitVec.ofNat 8 g.code = match g with | .blocked => 0#8 | .opened => 1#8 | .safe => 2#8 := by
  cases g <;> rfl

theorem phaseCode_eq (p : StorePhase) : BitVec.ofNat 8 p.code =
    match p with | .idle => 0#8 | .writingSettings _ => 1#8 | .writingWear _ => 1#8 | .failed => 2#8 := by
  cases p <;> rfl

theorem gensetCode_eq (g : GensetState) : BitVec.ofNat 8 g.code =
    match g with
    | .unknown => 0#8 | .stopped => 1#8 | .cranking => 2#8 | .resting => 3#8
    | .warming => 4#8 | .online => 5#8 | .cooldown => 6#8 | .lockedOut => 7#8 := by
  cases g <;> rfl

theorem activeNumber_eq (c : ContractUnit) : c.activeNumber = match c.active with | some a => a.number | none => 0 := by
  unfold ContractUnit.activeNumber
  cases c.active <;> rfl

theorem proposalNumber_eq (c : ContractUnit) : c.proposalNumber = match c.proposal with | some p => p.number | none => 0 := by
  unfold ContractUnit.proposalNumber
  cases c.proposal <;> rfl

theorem State.repliesService.content {s t : State} {i : Instr} {k : Nat} {o : Answer} {b : Bool} {l m : List Byte}
    (h : s.repliesService t i (.answer k o b l)) (e : l = m) : s.repliesService t i (.answer k o b m) := e ▸ h

theorem flagByte_four (a b c d : Bool) : flagByte [a, b, c, d] =
    (if a then 1 else 0) + (if b then 2 else 0) + (if c then 4 else 0) + (if d then 8 else 0) := by
  revert a b c d
  decide

/-- Settles O56: each transaction by its address and what waits. -/
theorem serviceLinkIsServed : Obligations.ServiceLinkIsServed := by
  refine ⟨fun addr bytes s => ?_, fun addr n s => ?_, fun s => ?_, fun v request r n own held => ?_, fun s => ?_⟩
  · obtain ⟨served, silent⟩ := serviceWrite_served addr bytes s
    by_cases other : s.loaded = false ∨ addr ≠ s.svc.address
    · refine ⟨_, silent other, rfl, fun _ => rfl, fun load own => absurd other ?_⟩
      simp [load, own]
    · obtain ⟨load, own⟩ := not_or.1 other
      obtain ⟨busy, free⟩ := served (by simpa using load) (by simpa using own)
      cases waits : s.svc.inProcess with
      | some i => exact ⟨_, busy i waits, rfl, fun h => absurd h other, fun _ _ => ⟨fun _ _ => rfl, fun h => nomatch h⟩⟩
      | none =>
        exact ⟨_, free waits, rfl, fun h => absurd h other, fun _ _ => ⟨(fun _ h => nomatch h), fun _ =>
          ServicePort.takeFrame_cases waits bytes⟩⟩
  · obtain ⟨served, silent⟩ := serviceRead_served addr n s
    by_cases other : s.loaded = false ∨ addr ≠ s.svc.address
    · refine ⟨_, silent other, rfl, fun _ => rfl, fun load own => absurd other ?_⟩
      simp [load, own]
    · obtain ⟨load, own⟩ := not_or.1 other
      obtain ⟨reply, holds, idle⟩ := served (by simpa using load) (by simpa using own)
      cases waits : s.svc.reply with
      | some r =>
        refine ⟨_, reply r waits, rfl, fun h => absurd h other, fun _ _ => ⟨?_, (fun _ h => nomatch h), fun h => nomatch h⟩⟩
        rintro _ ⟨⟩
        exact ⟨carries_clocked _ _, rfl⟩
      | none =>
        cases process : s.svc.inProcess with
        | some i =>
          exact ⟨_, holds i waits process, rfl, fun h => absurd h other, fun _ _ => ⟨(fun _ h => nomatch h), fun _ _ _ => rfl,
            fun _ h => nomatch h⟩⟩
        | none =>
          refine ⟨_, idle waits process, rfl, fun h => absurd h other, fun _ _ => ⟨(fun _ h => nomatch h), (fun _ _ h => nomatch h),
            fun _ _ => ⟨?_, ?_⟩⟩⟩
          · exact carries_of_eq (carries_clocked _ n) (idleFrame_eq .up s.cu.gate)
          · rfl
  · cases held : s.svc.hold with
    | none =>
      have ran : exec .serviceReadHoldTimeout s = .next s := by simp only [exec, execServiceReadHoldTimeout, held]
      exact ⟨_, ran, rfl, fun _ => rfl, (fun _ h => nomatch h)⟩
    | some n =>
      by_cases runs : s.svc.holdTimer.isRunning = true
      · have ran : exec .serviceReadHoldTimeout s =
            .next (s.onSvc fun v => { (v.send notReadyFrame n) with hold := none, holdTimer := .stopped }) := by
          simp only [exec, execServiceReadHoldTimeout, held, runs, if_true]
        refine ⟨_, ran, rfl, ?_, ?_⟩
        · rintro (h | stopped)
          · exact nomatch h
          · exact absurd runs (not_isRunning_of_stopped stopped)
        · rintro _ ⟨⟩ _
          exact ⟨carries_clocked _ _, rfl⟩
      · have ran : exec .serviceReadHoldTimeout s = .next s := by
          simp only [exec, execServiceReadHoldTimeout, held, runs]
          rfl
        exact ⟨_, ran, rfl, fun _ => rfl, fun _ _ h => absurd (Timer.isRunning_iff.2 h) runs⟩
  · rw [ServicePort.place_held r own held]
    exact ⟨carries_clocked _ _, rfl⟩
  · refine ⟨_, rfl, rfl, (State.serviceAnswer_replies (s := s) rfl .serviceStatusQuery 0x02 .status false s.serviceStatus).content ?_⟩
    exact List.cons_eq_cons.2 ⟨gateCode_eq _, List.cons_eq_cons.2 ⟨congrArg _ (activeNumber_eq _),
      List.cons_eq_cons.2 ⟨congrArg _ (proposalNumber_eq _), List.cons_eq_cons.2 ⟨phaseCode_eq _,
        List.cons_eq_cons.2 ⟨congrArg _ (flagByte_four _ _ _ _), List.cons_eq_cons.2 ⟨gensetCode_eq _, rfl⟩⟩⟩⟩⟩⟩

/-! ### The store (R163, R165, R166) -/

/-- What the end of a settings write leaves (R165). -/
theorem endWrite_settings {s : State} {x : Settings} (writing : s.store.phase = .writingSettings x) (ok : Bool) :
    (s.endWrite ok).store = { s.store with
        phase := if ok then .idle else .failed, settingsBad := !ok, settingsImage := (s.endWrite ok).store.settingsImage } ∧
      (ok = true → (s.endWrite ok).store.settingsImage = writtenSettings x) ∧
      (s.endWrite ok).signals =
        s.signals ++ (if s.store.settingsBad = (!ok) then [] else [.conditionLevelChange [.settingsBad (!ok)]]) := by
  cases ok with
  | true =>
    have ended : s.endWrite true =
        let t := s.raiseIf s.store.settingsBad (.conditionLevelChange [.settingsBad false])
        { t with store := { t.store with phase := .idle, settingsBad := false, settingsImage := writtenSettings x } } := by
      simp only [State.endWrite, writing]
    rw [ended]
    dsimp only
    rw [State.raiseIf_store, State.raiseIf_signals]
    refine ⟨rfl, fun _ => rfl, ?_⟩
    cases s.store.settingsBad <;> rfl
  | false =>
    have ended : s.endWrite false =
        let t := s.raiseIf (!s.store.settingsBad) (.conditionLevelChange [.settingsBad true])
        { t with
          store := { t.store with
            phase := .failed, settingsBad := true, settingsImage := Config.tornSettings t.freeCount t.store.settingsImage x }
          freeCount := t.freeCount + 1 } := by
      simp only [State.endWrite, writing]
    rw [ended]
    dsimp only
    rw [State.raiseIf_store, State.raiseIf_signals]
    refine ⟨rfl, (fun h => nomatch h), ?_⟩
    cases s.store.settingsBad <;> rfl

/-- What the end of a wear save leaves (R165). -/
theorem endWrite_wear {s : State} {x : WearContents} (writing : s.store.phase = .writingWear x) (ok : Bool) :
    (s.endWrite ok).store = { s.store with
        phase := if ok then .idle else .failed, wearBad := !ok, wearImage := (s.endWrite ok).store.wearImage } ∧
      (ok = true → (s.endWrite ok).store.wearImage = writtenWear x) ∧
      (s.endWrite ok).signals =
        s.signals ++ (if s.store.wearBad = (!ok) then [] else [.conditionLevelChange [.wearBad (!ok)]]) := by
  cases ok with
  | true =>
    have ended : s.endWrite true =
        let t := s.raiseIf s.store.wearBad (.conditionLevelChange [.wearBad false])
        { t with store := { t.store with phase := .idle, wearBad := false, wearImage := writtenWear x } } := by
      simp only [State.endWrite, writing]
    rw [ended]
    dsimp only
    rw [State.raiseIf_store, State.raiseIf_signals]
    refine ⟨rfl, fun _ => rfl, ?_⟩
    cases s.store.wearBad <;> rfl
  | false =>
    have ended : s.endWrite false =
        let t := s.raiseIf (!s.store.wearBad) (.conditionLevelChange [.wearBad true])
        { t with
          store := { t.store with phase := .failed, wearBad := true, wearImage := Config.tornWear t.freeCount t.store.wearImage x }
          freeCount := t.freeCount + 1 } := by
      simp only [State.endWrite, writing]
    rw [ended]
    dsimp only
    rw [State.raiseIf_store, State.raiseIf_signals]
    refine ⟨rfl, (fun h => nomatch h), ?_⟩
    cases s.store.wearBad <;> rfl

/-- A save that waited begins; else the store is as the write left it (R165). -/
theorem beginPendingSave_cases (s : State) :
    (s.store.pendingSave = true → s.beginPendingSave =
      { s with store := { s.store with pendingSave := false, phase := .writingWear s.wear.contents } }) ∧
      (s.store.pendingSave = false → s.beginPendingSave = s) :=
  ⟨fun waits => if_pos waits, fun none => if_neg (by simp [none])⟩

/-- The end of a write, then the save that waited. -/
theorem beginPendingSave_endWrite {s : State} {ok : Bool} (pending : (s.endWrite ok).store.pendingSave = s.store.pendingSave)
    (phase : (s.endWrite ok).store.phase = if ok then .idle else .failed) :
    let t := (s.endWrite ok).beginPendingSave
    t.store.pendingSave = false ∧
      (s.store.pendingSave = true → ∃ x : WearContents, x.takenFrom s.wear ∧ t.store.phase = .writingWear x) ∧
      (s.store.pendingSave = false → t.store.phase = if ok then .idle else .failed) ∧
      t.store = { (s.endWrite ok).store with pendingSave := false, phase := t.store.phase } ∧
      t.signals = (s.endWrite ok).signals := by
  obtain ⟨begins, rests⟩ := beginPendingSave_cases (s.endWrite ok)
  have wear : (s.endWrite ok).wear = s.wear := (within_endWrite s ok).1 .wear (by decide)
  cases waits : s.store.pendingSave with
  | true =>
    rw [begins (pending.trans waits)]
    exact ⟨rfl, fun _ => ⟨_, wear ▸ WearUnit.contents_takenFrom _, rfl⟩, (fun h => nomatch h), rfl, rfl⟩
  | false =>
    rw [rests (pending.trans waits)]
    refine ⟨pending.trans waits, (fun h => nomatch h), fun _ => phase, ?_, rfl⟩
    rw [← pending.trans waits]

theorem commit_ran (s : State) :
    (s.store.phase = .idle ∨ s.store.phase = .failed → exec .commit s =
      .next (({ s with store := { s.store with phase := .writingSettings s.settings } }).serviceDone .commit 0x6A)) ∧
      (s.store.phase ≠ .idle → s.store.phase ≠ .failed → exec .commit s =
        .next (s.serviceAnswer .commit 0x6A (.refused .busy))) := by
  refine ⟨?_, fun notIdle notFailed => ?_⟩
  · rintro (idle | failed)
    · simp only [exec, execCommit, idle]
    · simp only [exec, execCommit, failed]
  · cases phase : s.store.phase with
    | idle => exact absurd phase notIdle
    | failed => exact absurd phase notFailed
    | writingSettings x => simp only [exec, execCommit, phase]
    | writingWear x => simp only [exec, execCommit, phase]

/-- Settles O58: each event by the state of the store. -/
theorem storeWritesBeginAndEnd : Obligations.StoreWritesBeginAndEnd := by
  refine ⟨fun s => ?_, fun s => ?_, fun ok s => ?_⟩
  · obtain ⟨begins, refuses⟩ := commit_ran s
    by_cases free : s.store.phase = .idle ∨ s.store.phase = .failed
    · exact ⟨_, begins free, fun _ => ⟨rfl, State.serviceDone_replies rfl _ _⟩, fun idle failed => absurd free (not_or.2 ⟨idle, failed⟩)⟩
    · obtain ⟨notIdle, notFailed⟩ := not_or.1 free
      exact ⟨_, refuses notIdle notFailed, fun h => absurd h free, fun _ _ => ⟨rfl, State.serviceAnswer_replies rfl _ _ _ _ _⟩⟩
  · by_cases runs : s.store.saveTimer.isRunning = true
    · have ran : exec .wearSaveTimerExpiry s =
          .next ({ s with store := { s.store with saveTimer := Timer.seconds 600 } }).requestWearSave := if_pos runs
      exact ⟨_, ran, within_of_exec ran, fun stopped => absurd runs (not_isRunning_of_stopped stopped), fun _ =>
        State.saveRequested_of rfl⟩
    · have ran : exec .wearSaveTimerExpiry s = .next s := if_neg runs
      exact ⟨_, ran, Within.refl _ _, fun _ => rfl, fun h => absurd (Timer.isRunning_iff.2 h) runs⟩
  · cases phase : s.store.phase with
    | idle =>
      have ran : exec (.storeWriteCompletion ok) s = .next s := by simp only [exec, execStoreWriteCompletion, phase]
      exact ⟨_, ran, Within.refl _ _, fun _ => rfl, fun h => absurd rfl h, (fun _ h => nomatch h), (fun _ h => nomatch h)⟩
    | failed =>
      have ran : exec (.storeWriteCompletion ok) s = .next s := by simp only [exec, execStoreWriteCompletion, phase]
      exact ⟨_, ran, Within.refl _ _, fun _ => rfl, fun _ h => absurd rfl h, (fun _ h => nomatch h), (fun _ h => nomatch h)⟩
    | writingSettings x =>
      have ran : exec (.storeWriteCompletion ok) s = .next (s.endWrite ok).beginPendingSave := by
        simp only [exec, execStoreWriteCompletion, phase]
      obtain ⟨store, image, signals⟩ := endWrite_settings phase ok
      obtain ⟨none, begins, ends, rest, told⟩ := beginPendingSave_endWrite (by rw [store]) (by rw [store])
      refine ⟨_, ran, within_of_exec ran, ?_, fun _ _ => ⟨none, ?_, begins, ends⟩, ?_, (fun _ h => nomatch h)⟩
      · rintro (h | h) <;> exact nomatch h
      · rw [rest, store]
      · rintro _ ⟨⟩
        refine ⟨?_, ?_, ?_, fun good => ?_, told.trans signals⟩
        · rw [rest, store]
        · rw [rest, store]
        · rw [rest, store]
        · rw [rest]
          dsimp only
          rw [image good]
          exact ⟨rfl, beq_self_eq_true _⟩
    | writingWear x =>
      have ran : exec (.storeWriteCompletion ok) s = .next (s.endWrite ok).beginPendingSave := by
        simp only [exec, execStoreWriteCompletion, phase]
      obtain ⟨store, image, signals⟩ := endWrite_wear phase ok
      obtain ⟨none, begins, ends, rest, told⟩ := beginPendingSave_endWrite (by rw [store]) (by rw [store])
      refine ⟨_, ran, within_of_exec ran, ?_, fun _ _ => ⟨none, ?_, begins, ends⟩, (fun _ h => nomatch h), ?_⟩
      · rintro (h | h) <;> exact nomatch h
      · rw [rest, store]
      · rintro _ ⟨⟩
        refine ⟨?_, ?_, ?_, fun good => ?_, told.trans signals⟩
        · rw [rest, store]
        · rw [rest, store]
        · rw [rest, store]
        · rw [rest]
          dsimp only
          rw [image good]
          exact ⟨rfl, beq_self_eq_true _⟩

end Sys2Proof.Machine

/-! ## Requests put in frames and read again (sections 10-3, 10-4 and 11-3) -/

namespace Sys2Proof.Machine

/-! ### The envelope (R149) -/

/-- A frame in the envelope passes the checks of a port that allows its kind with its payload's length. -/
theorem checkFrame_envelope {lengthOf : Nat → List Byte → Option Nat} {kind : Nat} {payload : List Byte} (small : kind < 256)
    (fits : payload.length ≤ 29) (allowed : lengthOf kind payload = some payload.length) :
    checkFrame lengthOf (envelope kind payload) = .ok (kind, payload) := by
  have kindByte : (BitVec.ofNat 8 kind).toNat = kind := by rw [BitVec.toNat_ofNat]; omega
  have lengthByte : (BitVec.ofNat 8 payload.length).toNat = payload.length := by rw [BitVec.toNat_ofNat]; omega
  have crc : (payload ++ [crc8 (BitVec.ofNat 8 kind :: BitVec.ofNat 8 payload.length :: payload)]).getD payload.length 0#8 =
      crc8 (BitVec.ofNat 8 kind :: BitVec.ofNat 8 payload.length :: payload) := by simp
  simp only [envelope, checkFrame, List.cons_append, kindByte, lengthByte, List.take_left, crc, allowed]
  simp [fits]

/-! ### Fields (section 10-3, R160) -/

theorem byte_toNat {n : Nat} (h : n < 256) : (BitVec.ofNat 8 n).toNat = n := by rw [BitVec.toNat_ofNat]; omega

theorem nat16_bytes {n : Nat} (h : n < 65536) : nat16 (BitVec.ofNat 8 n) (BitVec.ofNat 8 (n / 256)) = n := by
  rw [nat16, BitVec.toNat_ofNat, BitVec.toNat_ofNat]
  omega

theorem int16_bytes {i : Int} (lo : -32768 ≤ i) (hi : i < 32768) :
    int16 (BitVec.ofNat 8 (BitVec.ofInt 16 i).toNat) (BitVec.ofNat 8 ((BitVec.ofInt 16 i).toNat / 256)) = i := by
  rw [int16, nat16_bytes (BitVec.ofInt 16 i).isLt, BitVec.ofNat_toNat, BitVec.setWidth_eq, BitVec.toInt_ofInt]
  exact Int.bmod_eq_of_le (by omega) (by omega)

theorem nat32_bytes {n : Nat} (h : n < 4294967296) : nat32 (BitVec.ofNat 8 n) (BitVec.ofNat 8 (n / 256)) (BitVec.ofNat 8 (n / 65536))
    (BitVec.ofNat 8 (n / 16777216)) = n := by
  simp only [nat32, BitVec.toNat_ofNat]
  omega

/-- An item value as the item's kind reads it (R160). -/
theorem itemValue_bytes {unsigned : Bool} {v : Int} (fits : (if unsigned then fitsU32 v else fits32 v) = true) :
    let n := (BitVec.ofInt 32 v).toNat
    (if unsigned then (nat32 (BitVec.ofNat 8 n) (BitVec.ofNat 8 (n / 256)) (BitVec.ofNat 8 (n / 65536))
        (BitVec.ofNat 8 (n / 16777216)) : Int)
      else int32 (BitVec.ofNat 8 n) (BitVec.ofNat 8 (n / 256)) (BitVec.ofNat 8 (n / 65536)) (BitVec.ofNat 8 (n / 16777216))) = v := by
  dsimp only
  rw [int32, nat32_bytes (BitVec.ofInt 32 v).isLt]
  cases unsigned with
  | true =>
    rw [if_pos rfl, fitsU32, Bool.and_eq_true, decide_eq_true_eq, decide_eq_true_eq] at fits
    rw [if_pos rfl, BitVec.toNat_ofInt]
    omega
  | false =>
    rw [if_neg (by decide), fits32, Bool.and_eq_true, decide_eq_true_eq, decide_eq_true_eq] at fits
    rw [if_neg (by decide), BitVec.ofNat_toNat, BitVec.setWidth_eq, BitVec.toInt_ofInt]
    exact Int.bmod_eq_of_le (by omega) (by omega)

theorem bit_flagByte (a b c d : Bool) :
    let f := BitVec.ofNat 8 (flagByte [a, b, c, d])
    bit f 0 = a ∧ bit f 1 = b ∧ bit f 2 = c ∧ bit f 3 = d := by
  revert a b c d
  decide

theorem bit_flagByte_one (a : Bool) : bit (BitVec.ofNat 8 (flagByte [a])) 0 = a := by cases a <;> decide

/-! ### Partner requests (section 10-3) -/

/-- An offer entry's four bytes are read as the entry. -/
theorem decodeOffers_cons {o : RawOffer} (fits : o.fits = true) (rest : List Byte) :
    decodeOffers (encodeOffer o ++ rest) = o :: decodeOffers rest := by
  obtain ⟨power, duration, peak, quiet, cost⟩ := o
  simp only [RawOffer.fits, fitsNat, Bool.and_eq_true, decide_eq_true_eq] at fits
  obtain ⟨⟨smallPower, smallDuration⟩, smallCost⟩ := fits
  have third : (BitVec.ofNat 8 (duration / 16 % 64 + (if peak then 64 else 0) + (if quiet then 128 else 0))).toNat =
      duration / 16 % 64 + (if peak then 64 else 0) + (if quiet then 128 else 0) :=
    byte_toNat (by cases peak <;> cases quiet <;> simp <;> omega)
  simp only [encodeOffer, List.cons_append, List.nil_append, decodeOffers, third]
  refine congrArg (· :: decodeOffers rest) ?_
  simp only [RawOffer.mk.injEq, BitVec.toNat_ofNat]
  refine ⟨by omega, ?_, ?_, ?_, by omega⟩
  · cases peak <;> cases quiet <;> simp <;> omega
  · cases peak <;> cases quiet <;> simp <;> omega
  · cases peak <;> cases quiet <;> simp <;> omega

theorem decodeOffers_encode {es : List RawOffer} (fits : es.all RawOffer.fits = true) :
    decodeOffers (es.flatMap encodeOffer) = es := by
  induction es with
  | nil => rfl
  | cons e es ih =>
    rw [List.all_cons, Bool.and_eq_true] at fits
    obtain ⟨here, later⟩ := fits
    rw [List.flatMap_cons, decodeOffers_cons here, ih later]

theorem encodeOffers_length (es : List RawOffer) : (es.flatMap encodeOffer).length = 4 * es.length := by
  induction es with
  | nil => rfl
  | cons e es ih =>
    rw [List.flatMap_cons, List.length_append, ih, List.length_cons]
    change 4 + _ = _
    omega

theorem tractionReport_reads {r : TractionReport} (fits : r.fits = true) :
    decodePartner .traction 0x10 (le16 r.v ++ le16 r.pReq ++ le16 r.pMin ++ le16 r.rMot ++ le16s r.motorTemp ++
      [BitVec.ofNat 8 (flagByte [r.giveBack])]) = some (.tractionReport r) := by
  simp only [TractionReport.fits, fitsNat, fits16, Bool.and_eq_true, decide_eq_true_eq] at fits
  obtain ⟨⟨⟨⟨v, req⟩, min⟩, mot⟩, lo, hi⟩ := fits
  change some (Instr.tractionReport ⟨nat16 _ _, nat16 _ _, nat16 _ _, bit _ 0, nat16 _ _, int16 _ _⟩) = _
  rw [nat16_bytes v, nat16_bytes req, nat16_bytes min, nat16_bytes mot, int16_bytes lo hi, bit_flagByte_one]

theorem packReport_reads {r : PackReport} (fits : r.fits = true) :
    decodePartner .pack 0x11 (le16 r.soc ++ le16s r.temp ++ le16s r.pPack ++ le16 r.aAcc) = some (.packReport r) := by
  simp only [PackReport.fits, fitsNat, fits16, Bool.and_eq_true, decide_eq_true_eq] at fits
  obtain ⟨⟨⟨soc, cold, hot⟩, lo, hi⟩, acc⟩ := fits
  change some (Instr.packReport ⟨nat16 _ _, int16 _ _, int16 _ _, nat16 _ _⟩) = _
  rw [nat16_bytes soc, int16_bytes cold hot, int16_bytes lo hi, nat16_bytes acc]

theorem gensetReport_reads {r : RawGensetReport} (fits : r.fits = true) :
    decodePartner .genset 0x12 ([BitVec.ofNat 8 r.condition] ++ le16s r.coolant ++ [BitVec.ofNat 8 r.fault]) =
      some (.gensetReport r) := by
  simp only [RawGensetReport.fits, fitsNat, fits16, Bool.and_eq_true, decide_eq_true_eq] at fits
  obtain ⟨⟨condition, lo, hi⟩, fault⟩ := fits
  change some (Instr.gensetReport ⟨BitVec.toNat _, int16 _ _, BitVec.toNat _⟩) = _
  rw [byte_toNat condition, int16_bytes lo hi, byte_toNat fault]

theorem brakeDemand_reads {r : BrakeDemand} (fits : r.fits = true) :
    decodePartner .brake 0x13 (le16 r.d ++ le16 r.m ++ le16 r.load1 ++ le16 r.load2 ++ le16 r.load3 ++
      [BitVec.ofNat 8 (flagByte [r.abs1, r.abs2, r.abs3, r.parking])]) = some (.brakeDemand r) := by
  simp only [BrakeDemand.fits, fitsNat, Bool.and_eq_true, decide_eq_true_eq] at fits
  obtain ⟨⟨⟨⟨d, m⟩, l1⟩, l2⟩, l3⟩ := fits
  obtain ⟨abs1, abs2, abs3, parking⟩ := bit_flagByte r.abs1 r.abs2 r.abs3 r.parking
  change some (Instr.brakeDemand ⟨nat16 _ _, nat16 _ _, nat16 _ _, nat16 _ _, nat16 _ _, bit _ 0, bit _ 1, bit _ 2, bit _ 3⟩) = _
  rw [nat16_bytes d, nat16_bytes m, nat16_bytes l1, nat16_bytes l2, nat16_bytes l3, abs1, abs2, abs3, parking]

/-- A request whose frame its port allows and reads as the request makes the round trip. -/
theorem partnerRoundTrip {i : Instr} {p : Port} {kind : Nat} {payload : List Byte} (n : Nat) (small : kind < 256) (short : n ≤ 29)
    (length : payload.length = n) (allowed : partnerLength p kind payload = some n)
    (reads : decodePartner p kind payload = some i) :
    ∃ k l, checkFrame (partnerLength p) (envelope kind payload) = .ok (k, l) ∧ decodePartner p k l = some i :=
  ⟨_, _, checkFrame_envelope small (length ▸ short) (length ▸ allowed), reads⟩

/-- Settles O21: each request by its kind. -/
theorem partnerRequestsRoundTrip : Obligations.PartnerRequestsRoundTrip := by
  intro i p kind payload fits encoded
  cases i
  case statusQuery q =>
    cases encoded
    exact partnerRoundTrip 0 (by decide) (by decide) rfl rfl rfl
  case tractionReport r =>
    cases encoded
    exact partnerRoundTrip 11 (by decide) (by decide) rfl rfl (tractionReport_reads fits)
  case packReport r =>
    cases encoded
    exact partnerRoundTrip 8 (by decide) (by decide) rfl rfl (packReport_reads fits)
  case gensetReport r =>
    cases encoded
    exact partnerRoundTrip 4 (by decide) (by decide) rfl rfl (gensetReport_reads fits)
  case brakeDemand r =>
    cases encoded
    exact partnerRoundTrip 11 (by decide) (by decide) rfl rfl (brakeDemand_reads fits)
  case offerList supplier es =>
    cases encoded
    rw [Instr.wellFormed, Bool.and_eq_true, decide_eq_true_eq] at fits
    obtain ⟨few, entries⟩ := fits
    have length : (BitVec.ofNat 8 es.length :: es.flatMap encodeOffer).length = 1 + 4 * es.length := by
      rw [List.length_cons, encodeOffers_length, Nat.add_comm]
    have count : (BitVec.ofNat 8 es.length).toNat = es.length := byte_toNat (by omega)
    refine partnerRoundTrip (1 + 4 * es.length) (by decide) (by omega) length ?_ ?_
    · have named : offerListLength (BitVec.ofNat 8 es.length :: es.flatMap encodeOffer) = 1 + 4 * es.length := by
        rw [offerListLength, count]
      cases supplier <;> exact congrArg some named
    · have read := decodeOffers_encode entries
      cases supplier
      · exact congrArg (fun l => some (Instr.offerList .pack l)) read
      · exact congrArg (fun l => some (Instr.offerList .genset l)) read
  case accept q n =>
    cases encoded
    rw [Instr.wellFormed, fitsNat, decide_eq_true_eq] at fits
    have number := byte_toNat fits
    refine partnerRoundTrip 1 (by decide) (by decide) rfl (by cases q <;> rfl) ?_
    cases q <;> exact congrArg (fun n => some (Instr.accept _ n)) number
  case decline q n r =>
    cases encoded
    rw [Instr.wellFormed, Bool.and_eq_true, fitsNat, fitsNat, decide_eq_true_eq, decide_eq_true_eq] at fits
    have number := byte_toNat fits.1
    have reason := byte_toNat fits.2
    refine partnerRoundTrip 2 (by decide) (by decide) rfl (by cases q <;> rfl) ?_
    cases q <;> exact congrArg₂ (fun n r => some (Instr.decline _ n r)) number reason
  case yieldPower q kw =>
    cases encoded
    rw [Instr.wellFormed, fitsNat, decide_eq_true_eq] at fits
    exact partnerRoundTrip 2 (by decide) (by decide) rfl rfl (congrArg (fun kw => some (Instr.yieldPower _ kw)) (nat16_bytes fits))
  all_goals exact nomatch encoded

/-! ### Service requests (R160 to R162) -/

theorem serviceRoundTrip {i : Instr} {kind : Nat} {payload : List Byte} (n : Nat) (small : kind < 256) (short : n ≤ 29)
    (length : payload.length = n) (allowed : serviceLength kind payload = some n) (reads : decodeService kind payload = some i) :
    ∃ k l, checkFrame serviceLength (envelope kind payload) = .ok (k, l) ∧ decodeService k l = some i :=
  ⟨_, _, checkFrame_envelope small (length ▸ short) (length ▸ allowed), reads⟩

theorem bit_copy (copy : Bool) : bit (if copy then 1#8 else 0#8) 0 = copy := by cases copy <;> decide

/-- A WRITE_ITEM's payload: the item's number, COPY in bit 0 of the next byte, and the value. -/
def writePayload (n : Nat) (copy : Bool) (v : Int) : List Byte := le16 n ++ [if copy then 1#8 else 0#8] ++ le32 v

/-- A write's frame is read as the command of the item's row. -/
theorem write_reads {n : Nat} {copy : Bool} {v : Int} (number : n < 65536)
    (fits : (if unsignedItem n then fitsU32 v else fits32 v) = true) :
    decodeService 0x61 (writePayload n copy v) = some (writeCommand n copy v) := by
  have value := itemValue_bytes fits
  change some (writeCommand (nat16 _ _) (bit _ 0) (if unsignedItem (nat16 _ _) then (nat32 _ _ _ _ : Int) else int32 _ _ _ _)) = _
  rw [nat16_bytes number, bit_copy]
  exact congrArg (fun u => some (writeCommand n copy u)) value

/-- A write of an item that has a row of its own, or of any other, makes the round trip. -/
theorem writeRoundTrip {i : Instr} (n : Nat) (copy : Bool) (v : Int) (number : n < 65536)
    (fits : (if unsignedItem n then fitsU32 v else fits32 v) = true) (row : writeCommand n copy v = i) :
    ∃ k l, checkFrame serviceLength (envelope 0x61 (writePayload n copy v)) = .ok (k, l) ∧ decodeService k l = some i :=
  serviceRoundTrip 7 (by decide) (by decide) rfl rfl ((write_reads number fits).trans (congrArg some row))

theorem codes_bytes (codes : BitVec 24) : codes.extractLsb' 16 8 ++ codes.extractLsb' 8 8 ++ codes.extractLsb' 0 8 = codes := by
  refine BitVec.eq_of_getLsbD_eq fun i inside => ?_
  simp only [BitVec.getLsbD_append, BitVec.getLsbD_extractLsb']
  split
  · simp [*]
  · split
    · next h => simp [h, show 8 + (i - 8) = i by omega]
    · next h g =>
      have last : i - 8 - 8 < 8 := by omega
      simp [last, show 16 + (i - 8 - 8) = i by omega]

/-- The rows of the items of the aux lines and of the delivery masks (R161). -/
theorem writeCommand_ratedDraw (line : Fin 8) (v : Int) : writeCommand (0x528 + line) false v = .writeRatedDraw line v := by
  fin_cases line <;> rfl

theorem writeCommand_polarity (line : Fin 8) (v : Int) : writeCommand (0x530 + line) false v = .writePolarity line v := by
  fin_cases line <;> rfl

theorem writeCommand_mask {c : Nat} (lo : 1 ≤ c) (hi : c ≤ 23) (v : Int) :
    writeCommand (0x580 + (c - 1)) false v = .writeDeliveryMask (.code c) v := by
  interval_cases c <;> rfl

/-- Settles O55: each request by its kind, and each write by its item's row. -/
theorem serviceRequestsRoundTrip : Obligations.ServiceRequestsRoundTrip := by
  intro i kind payload fits encoded
  cases i
  case serviceStatusQuery =>
    cases encoded
    exact serviceRoundTrip 0 (by decide) (by decide) rfl rfl rfl
  case readItem n =>
    rw [Instr.wellFormed, fitsNat, decide_eq_true_eq] at fits
    by_cases clearing : n = 0x209
    · rw [encodeService, if_pos clearing] at encoded
      exact nomatch encoded
    · rw [encodeService, if_neg clearing] at encoded
      cases encoded
      refine serviceRoundTrip 2 (by decide) (by decide) rfl rfl ?_
      change some (if nat16 _ _ = 0x209 then Instr.activityStatusRead else .readItem (nat16 _ _)) = _
      rw [nat16_bytes fits, if_neg clearing]
  case activityStatusRead =>
    cases encoded
    exact serviceRoundTrip 2 (by decide) (by decide) rfl rfl rfl
  case writeItem n copy v =>
    rw [Instr.wellFormed, Bool.and_eq_true, fitsNat, decide_eq_true_eq] at fits
    obtain ⟨number, value⟩ := fits
    by_cases plain : writeCommand n copy v = .writeItem n copy v
    · rw [encodeService, if_pos plain] at encoded
      cases encoded
      exact writeRoundTrip n copy v number value plain
    · rw [encodeService, if_neg plain] at encoded
      exact nomatch encoded
  case writeModeVector m v =>
    cases encoded
    cases m
    · exact writeRoundTrip 0x520 false v (by decide) fits rfl
    · exact writeRoundTrip 0x521 false v (by decide) fits rfl
    · exact writeRoundTrip 0x522 false v (by decide) fits rfl
    · exact writeRoundTrip 0x523 false v (by decide) fits rfl
  case writeRatedDraw line v =>
    cases encoded
    exact writeRoundTrip (0x528 + line) false v (by omega) (by fin_cases line <;> exact fits) (writeCommand_ratedDraw line v)
  case writePolarity line v =>
    cases encoded
    exact writeRoundTrip (0x530 + line) false v (by omega) (by fin_cases line <;> exact fits) (writeCommand_polarity line v)
  case writePadAccount w copy v =>
    cases encoded
    exact writeRoundTrip (0x398 + w.index) copy v (by cases w <;> decide) (by cases w <;> exact fits) (by cases w <;> rfl)
  case writePadLife w copy v =>
    cases encoded
    exact writeRoundTrip (0x3A8 + w.index) copy v (by cases w <;> decide) (by cases w <;> exact fits) (by cases w <;> rfl)
  case writeHeatCapacity w copy v =>
    cases encoded
    exact writeRoundTrip (0x3B0 + w.index) copy v (by cases w <;> decide) (by cases w <;> exact fits) (by cases w <;> rfl)
  case writeBatteryAccount v =>
    cases encoded
    exact writeRoundTrip 0x400 false v (by decide) fits rfl
  case writeBatteryLife v =>
    cases encoded
    exact writeRoundTrip 0x402 false v (by decide) fits rfl
  case writeEngineAccount v =>
    cases encoded
    exact writeRoundTrip 0x405 false v (by decide) fits rfl
  case writeEngineLife v =>
    cases encoded
    exact writeRoundTrip 0x406 false v (by decide) fits rfl
  case writeFadeThreshold v =>
    cases encoded
    exact writeRoundTrip 0x554 false v (by decide) fits rfl
  case writeWarnGrade k v =>
    cases encoded
    cases k
    · exact writeRoundTrip 0x5A0 false v (by decide) fits rfl
    · exact writeRoundTrip 0x5A1 false v (by decide) fits rfl
    · exact writeRoundTrip 0x5A2 false v (by decide) fits rfl
  case writeChargeMark m v =>
    cases encoded
    cases m
    · exact writeRoundTrip 0x502 false v (by decide) fits rfl
    · exact writeRoundTrip 0x503 false v (by decide) fits rfl
  case writeCriticalMark v =>
    cases encoded
    exact writeRoundTrip 0x504 false v (by decide) fits rfl
  case writeDeliveryMask target v =>
    cases encoded
    obtain ⟨value, inside⟩ := (Bool.and_eq_true _ _).mp fits
    cases target with
    | code c =>
      obtain ⟨lo, hi⟩ := (Bool.and_eq_true _ _).mp inside
      rw [decide_eq_true_eq] at lo hi
      have signed : unsignedItem (0x580 + (c - 1)) = false := by interval_cases c <;> rfl
      exact writeRoundTrip (0x580 + (c - 1)) false v (by omega) (by rw [signed]; exact value) (writeCommand_mask lo hi v)
    | globalMask => exact writeRoundTrip 0x5A3 false v (by decide) value rfl
  case clearWarnings codes =>
    cases encoded
    exact serviceRoundTrip 3 (by decide) (by decide) rfl rfl (congrArg (fun c => some (Instr.clearWarnings c)) (codes_bytes codes))
  case wearResetPad n copy =>
    cases encoded
    simp only [Instr.wellFormed, fitsNat, Bool.and_eq_true, decide_eq_true_eq, bne_iff_ne] at fits
    obtain ⟨⟨small, notBattery⟩, notEngine⟩ := fits
    refine serviceRoundTrip 2 (by decide) (by decide) rfl rfl ?_
    simp only [decodeService, byte_toNat small, bit_copy]
  case wearResetBattery =>
    cases encoded
    exact serviceRoundTrip 2 (by decide) (by decide) rfl rfl rfl
  case wearResetEngine =>
    cases encoded
    exact serviceRoundTrip 2 (by decide) (by decide) rfl rfl rfl
  case setQuietZone on =>
    cases encoded
    exact serviceRoundTrip 1 (by decide) (by decide) rfl rfl (by cases on <;> rfl)
  case portReset n =>
    cases encoded
    rw [Instr.wellFormed, fitsNat, decide_eq_true_eq] at fits
    exact serviceRoundTrip 1 (by decide) (by decide) rfl rfl (congrArg (fun n => some (Instr.portReset n)) (byte_toNat fits))
  case tallyClear n =>
    cases encoded
    rw [Instr.wellFormed, fitsNat, decide_eq_true_eq] at fits
    exact serviceRoundTrip 1 (by decide) (by decide) rfl rfl (congrArg (fun n => some (Instr.tallyClear n)) (byte_toNat fits))
  case clearLockout =>
    cases encoded
    exact serviceRoundTrip 0 (by decide) (by decide) rfl rfl rfl
  case activity =>
    cases encoded
    exact serviceRoundTrip 0 (by decide) (by decide) rfl rfl rfl
  case drivelineReset =>
    cases encoded
    exact serviceRoundTrip 0 (by decide) (by decide) rfl rfl rfl
  case commit =>
    cases encoded
    exact serviceRoundTrip 0 (by decide) (by decide) rfl rfl rfl
  all_goals exact nomatch encoded

end Sys2Proof.Machine

/-! ## The item map of the Service port (R161): its numbers, and what each reads -/

namespace Sys2Proof.Machine

/-! ### Looking a number up -/

/-- The blocks follow one another, none reaching into the next. -/
def blocksApart (bs : List (Nat × List Int)) : Prop := bs.Pairwise fun a b => a.1 + a.2.length ≤ b.1

theorem lookupItem_eq_some {bs : List (Nat × List Int)} (apart : blocksApart bs) {first k : Nat} {values : List Int} {v : Int}
    (mem : (first, values) ∈ bs) (held : values[k]? = some v) : lookupItem (first + k) bs = some v := by
  have inside : k < values.length := (List.getElem?_eq_some_iff.1 held).1
  induction bs with
  | nil => exact nomatch mem
  | cons b bs ih =>
    obtain ⟨before, apart⟩ := List.pairwise_cons.1 apart
    rcases List.mem_cons.1 mem with rfl | later
    · rw [lookupItem, if_pos ⟨by omega, by omega⟩, Nat.add_sub_cancel_left, held]
    · have past := before _ later
      rw [lookupItem, if_neg (by omega)]
      exact ih apart later

theorem lookupItem_isSome {bs : List (Nat × List Int)} {n : Nat} :
    (∃ v, lookupItem n bs = some v) ↔ ∃ b ∈ bs, b.1 ≤ n ∧ n < b.1 + b.2.length := by
  induction bs with
  | nil => simp [lookupItem]
  | cons b bs ih =>
    obtain ⟨first, values⟩ := b
    rw [lookupItem]
    by_cases here : first ≤ n ∧ n < first + values.length
    · rw [if_pos here]
      refine ⟨fun _ => ⟨_, List.mem_cons_self, here⟩, fun _ => ⟨_, List.getElem?_eq_getElem (by omega)⟩⟩
    · rw [if_neg here, ih]
      refine ⟨fun ⟨b, mem, inside⟩ => ⟨b, List.mem_cons_of_mem _ mem, inside⟩, fun ⟨b, mem, inside⟩ => ?_⟩
      rcases List.mem_cons.1 mem with rfl | later
      · exact absurd inside here
      · exact ⟨b, later, inside⟩

/-! ### The layout of the map -/

/-- The first number and the length of each block. -/
def layout (bs : List (Nat × List Int)) : List (Nat × Nat) := bs.map fun b => (b.1, b.2.length)

theorem layout_append (a b : List (Nat × List Int)) : layout (a ++ b) = layout a ++ layout b := List.map_append

theorem entryBlocks_layout (first : Nat) (list : Option (Place (List Offer))) :
    layout (entryBlocks first list) = (List.range 6).map fun i => (first + 8 * i, 7) := by
  rw [layout, entryBlocks, List.map_map]
  refine List.map_congr_left fun i _ => ?_
  cases h : entryAt list (i + 1) <;> simp [h, Offer.items]

theorem placeItems_length {α : Type} (s : State) (p : Option (Place α)) : (s.placeItems p).length = 3 := by cases p <;> rfl

theorem fieldsOf_length {α : Type} (p : Option (Place α)) {n : Nat} {f : α → List Int} (h : ∀ a, (f a).length = n) :
    (fieldsOf p n f).length = n := by
  cases p with
  | none => exact List.length_replicate ..
  | some x => exact h x.content

theorem viewBlocks_layout (s : State) : layout s.viewBlocks =
    [(0x000, 9), (0x010, 7), (0x020, 6), (0x030, 12), (0x040, 2)] ++ ((List.range 6).map fun i => (0x048 + 8 * i, 7)) ++ [(0x080, 2)] ++
      ((List.range 6).map fun i => (0x088 + 8 * i, 7)) ++ [(0x0C0, 3)] := by
  have t := fieldsOf_length s.view.traction (n := 6) (f := TractionReport.items) fun _ => rfl
  have p := fieldsOf_length s.view.pack (n := 4) (f := PackReport.items) fun _ => rfl
  have g := fieldsOf_length s.view.genset (n := 3) (f := GensetReport.items) fun _ => rfl
  have b := fieldsOf_length s.view.brake (n := 9) (f := BrakeDemand.items) fun _ => rfl
  have r : (referenceItems s.view.reference).length = 3 := by cases s.view.reference <;> rfl
  rw [State.viewBlocks, layout_append, layout_append, layout_append, layout_append, entryBlocks_layout, entryBlocks_layout]
  simp only [layout, List.map_cons, List.map_nil, List.length_append, placeItems_length, t, p, g, b, r]
  rfl

theorem contractBlocks_layout (s : State) : layout s.contractBlocks =
    [(0x100, 5), (0x110, 16), (0x120, 16), (0x130, 2), (0x138, 3), (0x13C, 2), (0x140, 6), (0x148, 3), (0x150, 6)] := by
  refine congrArg₂ List.cons ?_ (congrArg₂ List.cons ?_ (congrArg₂ List.cons ?_ (congrArg₂ List.cons ?_ (congrArg₂ List.cons ?_
    (congrArg₂ List.cons ?_ rfl)))))
  · cases s.cu.round <;> rfl
  · cases s.cu.active <;> rfl
  · cases s.cu.proposal <;> rfl
  · cases s.cu.proposal <;> rfl
  · cases s.cu.lastDecline <;> rfl
  · cases s.cu.lastDrop <;> rfl

theorem blendItems_length (b : BlendUnit) : b.items.length = 32 := by
  unfold BlendUnit.items
  cases b.regenCopy <;> cases b.frictionCopy <;> rfl

/-- The blocks are those of R161's map, first and last of each. -/
theorem itemBlocks_layout (s : State) : layout s.itemBlocks = itemRuns.map fun r => (r.1, r.2 + 1 - r.1) := by
  have blend : layout [(0x200, s.gs.items), (0x280, s.auxItems), (0x300, s.blend.items)] = [(0x200, 15), (0x280, 7), (0x300, 32)] := by
    rw [layout, List.map_cons, List.map_cons, List.map_cons, blendItems_length]
    rfl
  simp only [State.itemBlocks, layout_append, viewBlocks_layout, contractBlocks_layout, blend]
  rfl

theorem itemBlocks_apart (s : State) : blocksApart s.itemBlocks := by
  have apart : (layout s.itemBlocks).Pairwise fun a b => a.1 + a.2 ≤ b.1 := by
    rw [itemBlocks_layout]
    decide
  exact List.pairwise_map.1 apart

/-- The numbers that read are those the map assigns (R161). -/
theorem readItem_isSome (s : State) (n : Nat) : (∃ v, s.readItem n = some v) ↔ itemAssigned n := by
  have placed : (∃ b ∈ s.itemBlocks, b.1 ≤ n ∧ n < b.1 + b.2.length) ↔ ∃ b ∈ layout s.itemBlocks, b.1 ≤ n ∧ n < b.1 + b.2 := by
    simp only [layout, List.mem_map, exists_exists_and_eq_and]
  rw [State.readItem, lookupItem_isSome, placed, itemBlocks_layout]
  simp only [List.mem_map, exists_exists_and_eq_and]
  exact exists_congr fun r => and_congr_right fun _ => and_congr_right fun _ => by omega

/-! ### What the blocks read -/

theorem mem_of_lookup {values : List Int} {first : Nat} {bs : List (Nat × List Int)} (h : bs.lookup first = some values) :
    (first, values) ∈ bs := by
  induction bs with
  | nil => exact nomatch h
  | cons b bs ih =>
    obtain ⟨n, l⟩ := b
    rw [List.lookup_cons] at h
    split at h
    · next here =>
      cases h
      rw [beq_iff_eq.1 here]
      exact List.mem_cons_self
    · exact List.mem_cons_of_mem _ (ih h)

/-- A block of the map is read from its first number on. -/
theorem shows_block {s : State} {first : Nat} {values shown : List Int} (block : (first, values) ∈ s.itemBlocks)
    (same : values = shown) : s.shows first shown := by
  subst same
  exact fun k v held => lookupItem_eq_some (itemBlocks_apart s) block held

/-- Part of a block is read from the number it starts at. -/
theorem shows_part {s : State} {first : Nat} {values shown : List Int} (block : (first, values) ∈ s.itemBlocks) (j : Nat)
    (part : (values.drop j).take shown.length = shown) : s.shows (first + j) shown := by
  intro k v held
  have inside : k < shown.length := (List.getElem?_eq_some_iff.1 held).1
  rw [← part, List.getElem?_take_of_lt inside, List.getElem?_drop] at held
  rw [Nat.add_assoc]
  exact lookupItem_eq_some (itemBlocks_apart s) block held

/-- One number of a block. -/
theorem shows_one {s : State} {first : Nat} {values : List Int} (block : (first, values) ∈ s.itemBlocks) {j : Nat} {v : Int}
    (held : values[j]? = some v) : s.shows (first + j) [v] := by
  intro k u at_
  cases k with
  | zero =>
    cases at_
    exact lookupItem_eq_some (first := first) (k := j) (itemBlocks_apart s) block held
  | succ k => exact nomatch at_

/-! The parts of the map, by unit. -/

theorem viewBlock {s : State} {first : Nat} {values : List Int} (h : (first, values) ∈ s.viewBlocks) :
    (first, values) ∈ s.itemBlocks := by
  simp only [State.itemBlocks, List.mem_append, h, true_or]

theorem contractBlock {s : State} {first : Nat} {values : List Int} (h : s.contractBlocks.lookup first = some values) :
    (first, values) ∈ s.itemBlocks := by
  simp only [State.itemBlocks, List.mem_append, mem_of_lookup h, true_or, or_true]

theorem unitBlock {s : State} {first : Nat} {values : List Int}
    (h : [(0x200, s.gs.items), (0x280, s.auxItems), (0x300, s.blend.items)].lookup first = some values) :
    (first, values) ∈ s.itemBlocks := by
  simp only [State.itemBlocks, List.mem_append, mem_of_lookup h, true_or, or_true]

theorem wheelBlock {s : State} {first : Nat} {values : List Int} (h : s.wheelBlocks.lookup first = some values) :
    (first, values) ∈ s.itemBlocks := by
  simp only [State.itemBlocks, List.mem_append, mem_of_lookup h, true_or, or_true]

theorem accountBlock (s : State) : (0x400, s.wear.items) ∈ s.itemBlocks := by
  simp only [State.itemBlocks, List.mem_append, List.mem_singleton, true_or, or_true]

theorem warningBlock {s : State} {first : Nat} {values : List Int} (h : s.warn.blocks.lookup first = some values) :
    (first, values) ∈ s.itemBlocks := by
  simp only [State.itemBlocks, List.mem_append, mem_of_lookup h, true_or, or_true]

theorem portBlock (s : State) (p : Port) : (0x4C0 + 16 * p.index, (s.port p).items) ∈ s.itemBlocks := by
  have mem : (0x4C0 + 16 * p.index, (s.port p).items) ∈ [(0x4C0, (s.port .traction).items), (0x4D0, (s.port .pack).items),
      (0x4E0, (s.port .genset).items), (0x4F0, (s.port .brake).items)] := by
    cases p <;> simp [Port.index]
  simp only [State.itemBlocks, List.mem_append, mem, true_or, or_true]

theorem settingsBlock {s : State} {first : Nat} {values : List Int} (h : s.settings.blocks.lookup first = some values) :
    (first, values) ∈ s.itemBlocks := by
  simp only [State.itemBlocks, List.mem_append, mem_of_lookup h, true_or, or_true]

theorem storeBlock (s : State) : (0x600, s.storeItems) ∈ s.itemBlocks := by
  simp only [State.itemBlocks, List.mem_append, List.mem_singleton, or_true]

/-! ### Codes and absent fields (log 17) -/

theorem optItem_eq (x : Option Nat) : optItem x = orAbsent x := by cases x <;> rfl

theorem flag_eq (b : Bool) : flag b = flagItem b := rfl

theorem remaining_eq (t : Timer) : t.remaining = timeLeft t := by cases t <;> rfl

theorem offerItems_eq (o : Offer) : o.items = o.shown := by
  obtain ⟨duration, power, cost, quiet, excluded, expired⟩ := o
  cases duration <;> rfl

theorem modeItem_eq (m : Mode) : num (modeCode m) = match m with | .electric => 0 | .hybrid => 1 | .charge => 2 | .safe => 3 := by
  cases m <;> rfl

theorem mismatchItems_eq (m : Option Mismatch) :
    flag m.isSome = (if m = none then 0 else 1) ∧
      optItem (m.map mismatchCode) = match m with | none => -1 | some .shortSupply => 0 | some .belowMinimum => 1 := by
  rcases m with _ | _ | _ <;> exact ⟨rfl, rfl⟩

theorem contractItems_eq (n : Nat) (t : Terms) : contractItems n t = termsShown n t := by
  obtain ⟨flagged, reason⟩ := mismatchItems_eq t.mismatch
  simp only [contractItems, termsShown, modeItem_eq, flagged, reason, optItem_eq, flag_eq] <;> rfl

/-- What an entry's seven numbers read. -/
def entryValues (list : Option (Place (List Offer))) (i : Nat) : List Int :=
  match entryAt list (i + 1) with
  | some o => o.items
  | none => List.replicate 7 absentItem

theorem mem_entryBlocks (first : Nat) (list : Option (Place (List Offer))) {i : Nat} (inside : i < 6) :
    (first + 8 * i, entryValues list i) ∈ entryBlocks first list :=
  List.mem_map.2 ⟨i, List.mem_range.2 inside, rfl⟩

theorem listShown_of {s : State} {count first : Nat} {list : Option (Place (List Offer))}
    (head : (count, [countItem list, s.ageItem list]) ∈ s.viewBlocks)
    (entries : ∀ b, b ∈ entryBlocks first list → b ∈ s.viewBlocks) : s.listShown count first list := by
  have entry : ∀ i : Nat, i < 6 → (first + 8 * i, entryValues list i) ∈ s.itemBlocks := fun i inside =>
    viewBlock (entries _ (mem_entryBlocks first list inside))
  refine ⟨fun none => ⟨shows_block (viewBlock head) ?_, fun i inside => shows_block (entry i inside) ?_⟩, fun l held =>
    ⟨shows_block (viewBlock head) ?_, fun i inside => shows_block (entry i inside) ?_⟩⟩
  · rw [none]
    rfl
  · rw [none]
    rfl
  · rw [held]
    rfl
  · rw [held]
    change (match l.content[i]? with | some o => o.items | none => List.replicate 7 absentItem) = _
    cases l.content[i]? with
    | none => rfl
    | some o => exact offerItems_eq o

theorem conditionItem_eq (c : EngineCondition) :
    num (conditionCode c) = match c with | .stopped => 0 | .cranking => 1 | .running => 2 | .fault => 3 := by
  cases c <;> rfl

theorem outcomeItem_eq (o : SelectionOutcome) :
    num o.code = match o with | .notRun => 0 | .propose => 1 | .same => 2 | .noTerms => 3 := by
  cases o <;> rfl

theorem reasonItem_eq (r : Option SelectionReason) : orAbsent (r.map SelectionReason.code) =
    match r with
    | none => -1 | some .shortSupply => 0 | some .belowMinimum => 1 | some .noStorageOffer => 2 | some .supplyBelowAux => 3 := by
  rcases r with _ | _ | _ | _ | _ <;> rfl

theorem gensetItem_eq (g : GensetState) : num g.code =
    match g with
    | .unknown => 0 | .stopped => 1 | .cranking => 2 | .resting => 3 | .warming => 4 | .online => 5 | .cooldown => 6
    | .lockedOut => 7 := by
  cases g <;> rfl

theorem wantItem_eq (w : Option WantCause) : orAbsent (w.map wantCode) =
    match w with | none => -1 | some .demand => 0 | some .charge => 1 := by
  rcases w with _ | _ | _ <;> rfl

theorem startItem_eq (c : StartCause) : num c.code = match c with | .none => 0 | .demand => 1 | .charge => 2 | .service => 3 := by
  cases c <;> rfl

theorem stopItem_eq (c : StopCause) : num c.code =
    match c with
    | .none => 0 | .idleOff => 1 | .quietZone => 2 | .keyOff => 3 | .fault => 4 | .noStart => 5 | .portLost => 6 := by
  cases c <;> rfl

theorem stepItem_eq (r : RampStep) : num r.code =
    match r with | .none => 0 | .up => 1 | .upDoubled => 2 | .down => 3 | .downDoubled => 4 | .held => 5 := by
  cases r <;> rfl

theorem phaseItem_eq (p : StorePhase) : num p.code =
    match p with | .idle => 0 | .writingSettings _ => 1 | .writingWear _ => 1 | .failed => 2 := by
  cases p <;> rfl

theorem State.viewShown_holds (s : State) : s.viewShown := by
  refine ⟨?_, ?_, ?_, ?_, listShown_of ?_ ?_, listShown_of ?_ ?_, ?_⟩
  · refine shows_block (viewBlock (mem_of_lookup rfl)) ?_
    cases s.view.traction <;> rfl
  · refine shows_block (viewBlock (mem_of_lookup rfl)) ?_
    cases s.view.pack <;> rfl
  · refine shows_block (viewBlock (mem_of_lookup rfl)) ?_
    cases s.view.genset with
    | none => rfl
    | some x => simp only [State.placeItems, fieldsOf, GensetReport.items, conditionItem_eq, optItem_eq] <;> rfl
  · refine shows_block (viewBlock (mem_of_lookup rfl)) ?_
    cases s.view.brake <;> rfl
  · simp [State.viewBlocks]
  · intro b mem
    simp only [State.viewBlocks, List.mem_append, mem, true_or, or_true]
  · simp [State.viewBlocks]
  · intro b mem
    simp only [State.viewBlocks, List.mem_append, mem, true_or, or_true]
  · refine shows_block (viewBlock (mem_of_lookup rfl)) ?_
    cases s.view.reference <;> rfl

theorem State.contractShown_holds (s : State) : s.contractShown := by
  refine ⟨?_, ?_, ?_, ?_, ?_, ?_, ?_, ?_, fun i inside => ?_⟩
  · refine shows_block (contractBlock rfl) ?_
    cases s.cu.gate <;> cases s.cu.round <;> rfl
  · refine shows_block (contractBlock rfl) ?_
    cases s.cu.active with
    | none => rfl
    | some c => exact contractItems_eq _ _
  · refine shows_block (contractBlock rfl) ?_
    cases s.cu.proposal with
    | none => rfl
    | some p => exact contractItems_eq _ _
  · refine shows_block (contractBlock rfl) ?_
    cases s.cu.proposal <;> rfl
  · refine shows_block (contractBlock rfl) ?_
    cases s.cu.lastDecline with
    | none => rfl
    | some d =>
      obtain ⟨ports, reason, number⟩ := d
      cases reason <;> rfl
  · refine shows_block (contractBlock rfl) ?_
    cases s.cu.lastDrop with
    | none => rfl
    | some d =>
      obtain ⟨reason, number⟩ := d
      cases reason <;> rfl
  · refine shows_block (contractBlock rfl) ?_
    simp only [LastSelection.items, outcomeItem_eq, reasonItem_eq, optItem_eq] <;> rfl
  · refine shows_block (contractBlock rfl) ?_
    unfold State.acceptanceItem
    cases s.view.pack <;> rfl
  · refine shows_one (contractBlock (first := 0x150) rfl) ?_
    rw [List.getElem?_map, List.getElem?_range inside]
    refine congrArg some ?_
    change (match (s.view.storage.bind fun l => l.content[i]?) with
      | none => absentItem | some o => num (derated s.derate o.power)) = _
    cases s.view.storage.bind fun l => l.content[i]? <;> rfl

/-! ### The units' items -/

theorem State.unitsShown_holds (s : State) : s.unitsShown := by
  refine ⟨?_, ?_, ?_⟩
  · refine shows_block (unitBlock rfl) ?_
    simp only [Sequencer.items, gensetItem_eq, wantItem_eq, startItem_eq, stopItem_eq, optItem_eq, remaining_eq] <;> rfl
  · refine shows_block (unitBlock rfl) ?_
    simp only [State.auxItems, State.outputView, modeItem_eq]
    cases s.aux.lines <;> rfl
  · refine shows_block (unitBlock rfl) ?_
    simp only [BlendUnit.items, stepItem_eq, remaining_eq]
    cases s.blend.regenCopy <;> cases s.blend.frictionCopy <;> rfl

theorem Six.toList_getElem? {α : Type} (x : Six α) (w : Wheel) : x.toList[w.index]? = some (x.get w) := by cases w <;> rfl

/-- One figure of each wheel end, in the order of the part. -/
theorem shows_wheel {s : State} {first : Nat} (f : WheelEnd → Int)
    (block : s.wheelBlocks.lookup first = some (s.wear.wheels.map f).toList) (w : Wheel) :
    s.shows (first + w.index) [f (s.wear.wheels.get w)] := by
  refine shows_one (wheelBlock block) ?_
  rw [Six.toList_getElem?, Six.get_map]

theorem State.wearShown_holds (s : State) : s.wearShown := by
  refine ⟨fun w => ⟨shows_wheel (fun e => num e.theta) rfl w, shows_wheel (fun e => num (e.theta / 16)) rfl w,
    shows_wheel (fun e => num e.heat) rfl w, shows_wheel (fun e => num e.account) rfl w, shows_wheel (fun e => num e.residue) rfl w,
    shows_wheel (fun e => num e.life) rfl w, ?_, shows_wheel (fun e => num e.grade) rfl w,
    shows_wheel (fun e => flag e.fade) rfl w⟩, ?_, ?_, ?_⟩
  · refine shows_one (wheelBlock (first := 0x3B0) rfl) ?_
    rw [List.getElem?_map, Six.toList_getElem?]
    rfl
  · refine shows_block (wheelBlock rfl) ?_
    rw [remaining_eq]
    rfl
  · exact shows_part (first := 0x400) (accountBlock s) 0 rfl
  · exact shows_part (first := 0x400) (accountBlock s) 5 rfl

/-- A list of runs of four, from the start of a run. -/
theorem flatMap_four {α : Type} {f : α → List Int} (h : ∀ a, (f a).length = 4) (l : List α) :
    ∀ (i : Nat) (inside : i < l.length), ((l.flatMap f).drop (4 * i)).take 4 = f l[i] := by
  induction l with
  | nil => intro i inside; exact absurd inside (Nat.not_lt_zero i)
  | cons a l ih =>
    intro i inside
    rw [List.flatMap_cons]
    cases i with
    | zero => exact List.take_left' (h a)
    | succ i =>
      have past : 4 * (i + 1) = (f a).length + 4 * i := by rw [h a]; omega
      rw [past, List.drop_append, List.drop_eq_nil_of_le (by omega), Nat.add_sub_cancel_left, List.nil_append]
      exact ih i (Nat.lt_of_succ_lt_succ inside)

theorem groupItem_eq (i : Nat) : num (groupCode (i + 1)) = if i < 12 then 0 else if i < 17 then 1 else if i < 21 then 2 else 3 := by
  unfold groupCode num
  split_ifs <;> first | rfl | omega

theorem portItem_eq (p : PortState) : num (portCode p) = match p with | .down => 0 | .up => 1 | .lost => 2 := by cases p <;> rfl

theorem attentionItem_eq (pp : PartnerPort) : flag pp.attentionLow =
    match pp.slot, pp.queue with | .reply _, _ => 1 | _, _ :: _ => 1 | _, [] => 0 := by
  unfold PartnerPort.attentionLow
  cases pp.slot <;> cases pp.queue <;> rfl

theorem State.statusShown_holds (s : State) : s.statusShown := by
  refine ⟨fun i inside => ?_, ?_, fun p => ?_, ?_⟩
  · refine shows_part (warningBlock (first := 0x440) rfl) (4 * i) ?_
    refine (flatMap_four (fun _ => rfl) (List.range 23) i (by rwa [List.length_range])).trans ?_
    rw [List.getElem_range, groupItem_eq]
    rfl
  · exact shows_block (warningBlock rfl) rfl
  · refine shows_block (portBlock s p) ?_
    simp only [PartnerPort.items, portItem_eq, attentionItem_eq, remaining_eq] <;> rfl
  · refine shows_block (storeBlock s) ?_
    simp only [State.storeItems, phaseItem_eq, remaining_eq] <;> rfl

theorem edgeItem_eq (e : Edge) : e.code = match e with | .rise => 0 | .fall => 1 | .both => 2 := by cases e <;> rfl

theorem State.settingsShown_holds (s : State) : s.settingsShown := by
  refine ⟨⟨shows_block (settingsBlock rfl) rfl, shows_block (settingsBlock rfl) rfl, shows_block (settingsBlock rfl) rfl,
    shows_block (settingsBlock rfl) rfl, shows_block (settingsBlock rfl) rfl, shows_block (settingsBlock rfl) rfl,
    shows_block (settingsBlock rfl) rfl, shows_block (settingsBlock rfl) rfl, shows_block (settingsBlock rfl) rfl⟩,
    shows_block (settingsBlock rfl) rfl, fun i inside => ⟨?_, ?_⟩, fun i inside => ⟨?_, ?_⟩⟩
  · refine shows_one (settingsBlock (first := 0x528) rfl) ?_
    rw [List.getElem?_map, List.getElem?_range inside]
    rfl
  · refine shows_one (settingsBlock (first := 0x530) rfl) ?_
    rw [List.getElem?_map, List.getElem?_range inside]
    rfl
  · refine shows_one (settingsBlock (first := 0x560) rfl) ?_
    rw [List.getElem?_map, List.getElem?_range inside]
    exact congrArg some (edgeItem_eq _)
  · refine shows_one (settingsBlock (first := 0x580) rfl) ?_
    rw [List.getElem?_map, List.getElem?_range inside]
    rfl

theorem State.itemsShown_holds (s : State) : s.itemsShown :=
  ⟨s.viewShown_holds, s.contractShown_holds, s.unitsShown_holds, s.wearShown_holds, s.statusShown_holds, s.settingsShown_holds⟩

end Sys2Proof.Machine

/-! ## Items written and read (R161, R162, R164) -/

namespace Sys2Proof.Machine

/-! ### One number of the map replaced -/

/-- The blocks with one number's value replaced. -/
def setItem (n : Nat) (v : Int) (bs : List (Nat × List Int)) : List (Nat × List Int) :=
  bs.map fun b => (b.1, if b.1 ≤ n ∧ n < b.1 + b.2.length then b.2.set (n - b.1) v else b.2)

theorem lookupItem_setItem_other {n m : Nat} (ne : m ≠ n) (v : Int) (bs : List (Nat × List Int)) :
    lookupItem m (setItem n v bs) = lookupItem m bs := by
  induction bs with
  | nil => rfl
  | cons b bs ih =>
    obtain ⟨first, values⟩ := b
    rw [setItem, List.map_cons, ← setItem, lookupItem, lookupItem, ih]
    by_cases holds : first ≤ n ∧ n < first + values.length
    · rw [if_pos holds, List.length_set]
      by_cases inside : first ≤ m ∧ m < first + values.length
      · rw [if_pos inside, if_pos inside, List.getElem?_set_ne (by omega)]
      · rw [if_neg inside, if_neg inside]
    · rw [if_neg holds]

theorem lookupItem_setItem_self {n : Nat} (v : Int) {bs : List (Nat × List Int)} (read : ∃ u, lookupItem n bs = some u) :
    lookupItem n (setItem n v bs) = some v := by
  induction bs with
  | nil => obtain ⟨u, h⟩ := read; exact nomatch h
  | cons b bs ih =>
    obtain ⟨first, values⟩ := b
    rw [setItem, List.map_cons, ← setItem, lookupItem]
    rw [lookupItem] at read
    by_cases holds : first ≤ n ∧ n < first + values.length
    · have place : n - first < values.length := by omega
      rw [if_pos holds, List.length_set, if_pos holds, List.getElem?_set_self place]
    · rw [if_neg holds] at read
      rw [if_neg holds, if_neg holds]
      exact ih read

/-! ### The settings that are only stored (R162) -/

theorem plainRange_of_settingRange {n : Nat} {lo hi : Int} (h : settingRange n = some (lo, hi)) : plainRange n lo hi := by
  unfold settingRange at h
  split at h
  case h_31 =>
    split at h
    · next inside =>
      cases h
      simp [plainRange, inside.1, inside.2]
    · exact nomatch h
  all_goals
    cases h
    simp [plainRange]

theorem Edge.code_ofInt {v : Int} (lo : 0 ≤ v) (hi : v ≤ 2) : (Edge.ofInt v).code = v := by
  have : v = 0 ∨ v = 1 ∨ v = 2 := by omega
  rcases this with rfl | rfl | rfl <;> rfl

/-- An edge selection replaced, as the map reads it. -/
theorem edgeValues_set {es : List Edge} (whole : es.length = 23) (k : Nat) (e : Edge) :
    ((List.range 23).map fun i => ((es.set k e).getD i .rise).code) =
      ((List.range 23).map fun i => (es.getD i .rise).code).set k e.code := by
  refine List.ext_getElem (by simp) fun i left right => ?_
  have place : i < 23 := by simpa using left
  rw [List.getElem_set, List.getElem_map, List.getElem_map, List.getElem_range, List.getD_eq_getElem _ _ (by simpa [whole] using place),
    List.getD_eq_getElem _ _ (by omega), List.getElem_set]
  split <;> rfl

/-- The settings' blocks with other values for the edge selections. -/
def Settings.blocksWith (x : Settings) (values : List Int) : List (Nat × List Int) :=
  x.blocks.map fun b => (b.1, if b.1 = 0x560 then values else b.2)

/-- An edge selection stored is read at its number, and nothing else is. -/
theorem withItem_blocks_edges {x : Settings} (edges : x.edges.length = 23) {n : Nat} {v : Int} (inside : 0x560 ≤ n ∧ n ≤ 0x576)
    (above : 0 ≤ v) (below : v ≤ 2) : (x.withItem n v).blocks = setItem n v x.blocks := by
  have stored : (x.withItem n v).blocks =
      x.blocksWith (((List.range 23).map fun i => (x.edges.getD i .rise).code).set (n - 0x560) v) := by
    rw [withItem_edges x inside, ← Edge.code_ofInt above below, ← edgeValues_set edges, Edge.code_ofInt above below]
    rfl
  rw [stored]
  obtain ⟨first, last⟩ := inside
  interval_cases n <;> rfl

/-- A plain setting stored within its range is read at its number, and nothing else is. -/
theorem withItem_blocks {x : Settings} (edges : x.edges.length = 23) {n : Nat} {lo hi v : Int} (plain : plainRange n lo hi)
    (above : lo ≤ v) (below : v ≤ hi) : (x.withItem n v).blocks = setItem n v x.blocks := by
  have number : 0 ≤ v → num v.toNat = v := Int.toNat_of_nonneg
  have flagged : 0 ≤ v → v ≤ 1 → flag (decide (v = 1)) = v := fun lo hi => by
    have : v = 0 ∨ v = 1 := by omega
    rcases this with rfl | rfl <;> rfl
  rcases plain with ⟨rfl, rfl, rfl⟩ | ⟨rfl, rfl, rfl⟩ | ⟨rfl | rfl | rfl | rfl | rfl | rfl, rfl, rfl⟩ | ⟨rfl, rfl, rfl⟩ | ⟨rfl, rfl, rfl⟩ |
    ⟨rfl, rfl, rfl⟩ | ⟨rfl, rfl, rfl⟩ | ⟨rfl, rfl, rfl⟩ | ⟨rfl, rfl, rfl⟩ | ⟨rfl, rfl, rfl⟩ | ⟨first, last, rfl, rfl⟩ |
    ⟨rfl | rfl, rfl, rfl⟩ | ⟨rfl, rfl, rfl⟩ | ⟨rfl | rfl, rfl, rfl⟩ | ⟨rfl | rfl, rfl, rfl⟩ | ⟨rfl | rfl, rfl, rfl⟩ | ⟨rfl, rfl, rfl⟩ |
    ⟨first, last, rfl, rfl⟩ | ⟨rfl, rfl, rfl⟩
  · exact congrArg (fun u => setItem 0x500 u x.blocks) (number (by omega))
  · exact congrArg (fun u => setItem 0x501 u x.blocks) (number (by omega))
  · exact congrArg (fun u => setItem 0x508 u x.blocks) (number (by omega))
  · exact congrArg (fun u => setItem 0x509 u x.blocks) (number (by omega))
  · exact congrArg (fun u => setItem 0x548 u x.blocks) (number (by omega))
  · exact congrArg (fun u => setItem 0x552 u x.blocks) (number (by omega))
  · exact congrArg (fun u => setItem 0x553 u x.blocks) (number (by omega))
  · exact congrArg (fun u => setItem 0x558 u x.blocks) (number (by omega))
  · exact congrArg (fun u => setItem 0x50A u x.blocks) (number (by omega))
  · exact congrArg (fun u => setItem 0x510 u x.blocks) (number (by omega))
  · exact congrArg (fun u => setItem 0x511 u x.blocks) (number (by omega))
  · exact congrArg (fun u => setItem 0x512 u x.blocks) (number (by omega))
  · exact congrArg (fun u => setItem 0x513 u x.blocks) (number (by omega))
  · rfl
  · exact congrArg (fun u => setItem 0x515 u x.blocks) (number (by omega))
  · interval_cases n
    · exact congrArg (fun u => setItem 0x516 u x.blocks) (flagged above below)
    · exact congrArg (fun u => setItem 0x517 u x.blocks) (flagged above below)
    · exact congrArg (fun u => setItem 0x518 u x.blocks) (flagged above below)
    · exact congrArg (fun u => setItem 0x519 u x.blocks) (flagged above below)
  · exact congrArg (fun u => setItem 0x541 u x.blocks) (number (by omega))
  · exact congrArg (fun u => setItem 0x542 u x.blocks) (number (by omega))
  · exact congrArg (fun u => setItem 0x543 u x.blocks) (number (by omega))
  · exact congrArg (fun u => setItem 0x544 u x.blocks) (number (by omega))
  · exact congrArg (fun u => setItem 0x545 u x.blocks) (number (by omega))
  · exact congrArg (fun u => setItem 0x546 u x.blocks) (number (by omega))
  · exact congrArg (fun u => setItem 0x547 u x.blocks) (number (by omega))
  · rfl
  · rfl
  · exact congrArg (fun u => setItem 0x551 u x.blocks) (number (by omega))
  · exact withItem_blocks_edges edges ⟨first, last⟩ above below
  · exact congrArg (fun u => setItem 0x5B8 u x.blocks) (number (by omega))

theorem plainRange_bounds {n : Nat} {lo hi : Int} (h : plainRange n lo hi) : lo ≤ hi ∧ 0x500 ≤ n ∧ n ≤ 0x5FF := by
  unfold plainRange at h
  omega

/-- What a plain setting's write stores, and how the map then reads (R99, R156, R161, R162). -/
structure StoredItem (x y : Settings) (n : Nat) (value v : Int) : Prop where
  blocks : y.blocks = setItem n v x.blocks
  item : n = 0x540 ∨ n = 0x5B0 ∨ ∃ lo hi, plainRange n lo hi ∧ v = max lo (min hi value)
  period : n = 0x540 → v = if value ≤ 15 then 10 else if value ≤ 30 then 20 else 40
  window : n = 0x5B0 → v = max 20 (min 500 value) / 10 * 10
  vectors : y.vectors = x.vectors
  capacity : y.heatCapacity = x.heatCapacity

theorem withItem_capacity (x : Settings) (n : Nat) (v : Int) : (x.withItem n v).heatCapacity = x.heatCapacity := by
  unfold Settings.withItem
  split <;> rfl

theorem writeSetting_stored {x y : Settings} {n : Nat} {value : Int} {b : Bool} (h : writeSetting x n value = some (y, b))
    (edges : x.edges.length = 23) : ∃ v, StoredItem x y n value v ∧ b = decide (v ≠ value) := by
  obtain ⟨vectors, -⟩ := writeSetting_keeps h
  unfold writeSetting at h
  split at h
  · cases h
    have natural : num (writtenBlendPeriod value).value.toNat = (writtenBlendPeriod value).value := by
      unfold writtenBlendPeriod num
      dsimp only
      split_ifs <;> rfl
    exact ⟨(writtenBlendPeriod value).value, ⟨congrArg (fun u => setItem 0x540 u x.blocks) natural, .inl rfl, fun _ => rfl,
      (fun e => nomatch e), rfl, rfl⟩, rfl⟩
  · cases h
    have range : (writtenSilenceWindow value).value = max 20 (min 500 value) / 10 * 10 := by
      unfold writtenSilenceWindow
      rw [clampInt_eq (by decide)]
    have natural : num (writtenSilenceWindow value).value.toNat = (writtenSilenceWindow value).value :=
      Int.toNat_of_nonneg (by omega)
    exact ⟨(writtenSilenceWindow value).value, ⟨congrArg (fun u => setItem 0x5B0 u x.blocks) natural, .inr (.inl rfl),
      (fun e => nomatch e), fun _ => range, rfl, rfl⟩, rfl⟩
  · next notPeriod notWindow =>
    obtain ⟨⟨lo, hi⟩, ranged, e⟩ := Option.map_eq_some_iff.1 h
    cases e
    have plain := plainRange_of_settingRange ranged
    obtain ⟨order, -, -⟩ := plainRange_bounds plain
    have range := writtenIn_value order value
    exact ⟨(writtenIn lo hi value).value, ⟨withItem_blocks edges plain (by omega) (by omega), .inr (.inr ⟨lo, hi, plain, range⟩),
      fun e => absurd e notPeriod, fun e => absurd e notWindow, vectors, withItem_capacity x n _⟩, rfl⟩

end Sys2Proof.Machine

/-! ## Which items are writable, and the three commands on items (R160 to R164) -/

namespace Sys2Proof.Machine

/-! ### Which items are writable (R160) -/

/-- An item that is only stored has no row of its own. -/
theorem writeCommand_plain {n : Nat} (h : n = 0x540 ∨ n = 0x5B0 ∨ ∃ lo hi, plainRange n lo hi) (copy : Bool) (v : Int) :
    writeCommand n copy v = .writeItem n copy v := by
  have runs : (0x500 ≤ n ∧ n ≤ 0x501) ∨ (0x508 ≤ n ∧ n ≤ 0x50A) ∨ (0x510 ≤ n ∧ n ≤ 0x519) ∨ (0x540 ≤ n ∧ n ≤ 0x548) ∨
      (0x550 ≤ n ∧ n ≤ 0x553) ∨ (0x558 ≤ n ∧ n ≤ 0x559) ∨ (0x560 ≤ n ∧ n ≤ 0x576) ∨ (0x5B0 ≤ n ∧ n ≤ 0x5B0) ∨
      (0x5B8 ≤ n ∧ n ≤ 0x5B8) := by
    rcases h with rfl | rfl | ⟨lo, hi, plain⟩
    · omega
    · omega
    · unfold plainRange at plain
      omega
  rcases runs with ⟨lo, hi⟩ | ⟨lo, hi⟩ | ⟨lo, hi⟩ | ⟨lo, hi⟩ | ⟨lo, hi⟩ | ⟨lo, hi⟩ | ⟨lo, hi⟩ | ⟨lo, hi⟩ | ⟨lo, hi⟩ <;>
    interval_cases n <;> rfl

/-- The numbers of the settings (R161). -/
theorem settingsItem_iff {n : Nat} : (itemAssigned n ∧ 0x500 ≤ n ∧ n ≤ 0x5FF) ↔
    (0x500 ≤ n ∧ n ≤ 0x504) ∨ (0x508 ≤ n ∧ n ≤ 0x50A) ∨ (0x510 ≤ n ∧ n ≤ 0x519) ∨ (0x520 ≤ n ∧ n ≤ 0x523) ∨ (0x528 ≤ n ∧ n ≤ 0x52F) ∨
      (0x530 ≤ n ∧ n ≤ 0x537) ∨ (0x540 ≤ n ∧ n ≤ 0x548) ∨ (0x550 ≤ n ∧ n ≤ 0x554) ∨ (0x558 ≤ n ∧ n ≤ 0x559) ∨
      (0x560 ≤ n ∧ n ≤ 0x576) ∨ (0x580 ≤ n ∧ n ≤ 0x596) ∨ (0x5A0 ≤ n ∧ n ≤ 0x5A3) ∨ n = 0x5B0 ∨ n = 0x5B8 := by
  constructor
  · rintro ⟨⟨⟨first, last⟩, mem, lo, hi⟩, above, below⟩
    simp only [itemRuns, List.mem_cons, Prod.mk.injEq, List.not_mem_nil, or_false] at mem
    dsimp only at lo hi
    omega
  · have run : ∀ first last, (first, last) ∈ itemRuns → 0x500 ≤ first → last ≤ 0x5FF → first ≤ n ∧ n ≤ last →
        itemAssigned n ∧ 0x500 ≤ n ∧ n ≤ 0x5FF := fun first last mem lo hi inside =>
      ⟨⟨(first, last), mem, inside⟩, lo.trans inside.1, inside.2.trans hi⟩
    rintro (h | h | h | h | h | h | h | h | h | h | h | h | rfl | rfl)
    · exact run _ _ (by decide) (by decide) (by decide) h
    · exact run _ _ (by decide) (by decide) (by decide) h
    · exact run _ _ (by decide) (by decide) (by decide) h
    · exact run _ _ (by decide) (by decide) (by decide) h
    · exact run _ _ (by decide) (by decide) (by decide) h
    · exact run _ _ (by decide) (by decide) (by decide) h
    · exact run _ _ (by decide) (by decide) (by decide) h
    · exact run _ _ (by decide) (by decide) (by decide) h
    · exact run _ _ (by decide) (by decide) (by decide) h
    · exact run _ _ (by decide) (by decide) (by decide) h
    · exact run _ _ (by decide) (by decide) (by decide) h
    · exact run _ _ (by decide) (by decide) (by decide) h
    · exact run 0x5B0 0x5B0 (by decide) (by decide) (by decide) (by decide)
    · exact run 0x5B8 0x5B8 (by decide) (by decide) (by decide) (by decide)

/-- A writable item, by the runs of numbers. -/
theorem itemWritable_iff {n : Nat} : itemWritable n ↔
    (0x398 ≤ n ∧ n ≤ 0x39D) ∨ (0x3A8 ≤ n ∧ n ≤ 0x3AD) ∨ (0x3B0 ≤ n ∧ n ≤ 0x3B5) ∨ n = 0x400 ∨ n = 0x402 ∨ n = 0x405 ∨ n = 0x406 ∨
    (0x500 ≤ n ∧ n ≤ 0x504) ∨ (0x508 ≤ n ∧ n ≤ 0x50A) ∨ (0x510 ≤ n ∧ n ≤ 0x519) ∨ (0x520 ≤ n ∧ n ≤ 0x523) ∨ (0x528 ≤ n ∧ n ≤ 0x52F) ∨
      (0x530 ≤ n ∧ n ≤ 0x537) ∨ (0x540 ≤ n ∧ n ≤ 0x548) ∨ (0x550 ≤ n ∧ n ≤ 0x554) ∨ (0x558 ≤ n ∧ n ≤ 0x559) ∨
      (0x560 ≤ n ∧ n ≤ 0x576) ∨ (0x580 ≤ n ∧ n ≤ 0x596) ∨ (0x5A0 ≤ n ∧ n ≤ 0x5A3) ∨ n = 0x5B0 ∨ n = 0x5B8 := by
  rw [itemWritable, settingsItem_iff]

theorem writeItemOp_isSome {n : Nat} (h : itemWritable n) (s : State) (copy : Bool) (v : Int) :
    (s.writeItemOp n copy v).isSome = true := by
  have runs : (0x398 ≤ n ∧ n ≤ 0x39D) ∨ (0x3A8 ≤ n ∧ n ≤ 0x3AD) ∨ (0x3B0 ≤ n ∧ n ≤ 0x3B5) ∨ (0x400 ≤ n ∧ n ≤ 0x400) ∨
      (0x402 ≤ n ∧ n ≤ 0x402) ∨ (0x405 ≤ n ∧ n ≤ 0x406) ∨ (0x500 ≤ n ∧ n ≤ 0x504) ∨ (0x508 ≤ n ∧ n ≤ 0x50A) ∨
      (0x510 ≤ n ∧ n ≤ 0x519) ∨ (0x520 ≤ n ∧ n ≤ 0x523) ∨ (0x528 ≤ n ∧ n ≤ 0x537) ∨ (0x540 ≤ n ∧ n ≤ 0x548) ∨
      (0x550 ≤ n ∧ n ≤ 0x554) ∨ (0x558 ≤ n ∧ n ≤ 0x559) ∨ (0x560 ≤ n ∧ n ≤ 0x576) ∨ (0x580 ≤ n ∧ n ≤ 0x596) ∨
      (0x5A0 ≤ n ∧ n ≤ 0x5A3) ∨ (0x5B0 ≤ n ∧ n ≤ 0x5B0) ∨ (0x5B8 ≤ n ∧ n ≤ 0x5B8) := by
    have known := itemWritable_iff.1 h
    omega
  rcases runs with ⟨lo, hi⟩ | ⟨lo, hi⟩ | ⟨lo, hi⟩ | ⟨lo, hi⟩ | ⟨lo, hi⟩ | ⟨lo, hi⟩ | ⟨lo, hi⟩ | ⟨lo, hi⟩ | ⟨lo, hi⟩ | ⟨lo, hi⟩ |
    ⟨lo, hi⟩ | ⟨lo, hi⟩ | ⟨lo, hi⟩ | ⟨lo, hi⟩ | ⟨lo, hi⟩ | ⟨lo, hi⟩ | ⟨lo, hi⟩ | ⟨lo, hi⟩ | ⟨lo, hi⟩ <;>
    interval_cases n <;> rfl

theorem itemWritable_of_plain {n : Nat} (h : n = 0x540 ∨ n = 0x5B0 ∨ ∃ lo hi, plainRange n lo hi) : itemWritable n := by
  rw [itemWritable_iff]
  rcases h with rfl | rfl | ⟨lo, hi, plain⟩
  · omega
  · omega
  · unfold plainRange at plain
    omega

theorem Wheel.ofIndex_lt {n : Nat} {w : Wheel} (h : Wheel.ofIndex n = some w) : n ≤ 5 := by
  by_contra beyond
  rw [Wheel.ofIndex_of_lt (by omega)] at h
  exact nomatch h

/-- An item of a wheel end's run. -/
theorem wheelRun {first n : Nat} {w : Wheel} (h : (if first ≤ n then Wheel.ofIndex (n - first) else none) = some w) :
    first ≤ n ∧ n ≤ first + 5 := by
  split at h
  · have inside := Wheel.ofIndex_lt h
    omega
  · exact nomatch h

theorem itemWritable_of_row {n : Nat} {copy : Bool} {v : Int} (h : ∀ m d w, writeCommand n copy v ≠ .writeItem m d w) :
    itemWritable n := by
  rw [itemWritable_iff]
  unfold writeCommand at h
  split at h
  case h_17 =>
    split at h
    · omega
    split at h
    · omega
    split at h
    · omega
    split at h
    · next found =>
      have run := wheelRun found
      omega
    · next found _ =>
      have run := wheelRun found
      omega
    · next found _ _ =>
      have run := wheelRun found
      omega
    · exact absurd rfl (h _ _ _)
  all_goals omega

theorem itemAssigned_of_writable {n : Nat} (h : itemWritable n) : itemAssigned n := by
  rcases h with h | h | h | rfl | rfl | rfl | rfl | ⟨assigned, -⟩
  · exact ⟨(0x398, 0x39D), by decide, h⟩
  · exact ⟨(0x3A8, 0x3AD), by decide, h⟩
  · exact ⟨(0x3B0, 0x3B5), by decide, h⟩
  · exact ⟨(0x400, 0x408), by decide, by decide⟩
  · exact ⟨(0x400, 0x408), by decide, by decide⟩
  · exact ⟨(0x400, 0x408), by decide, by decide⟩
  · exact ⟨(0x400, 0x408), by decide, by decide⟩
  · exact assigned

theorem plainItem_of_writeSetting {x y : Settings} {n : Nat} {v : Int} {b : Bool} (h : writeSetting x n v = some (y, b)) :
    n = 0x540 ∨ n = 0x5B0 ∨ ∃ lo hi, plainRange n lo hi := by
  unfold writeSetting at h
  split at h
  · exact .inl rfl
  · exact .inr (.inl rfl)
  · obtain ⟨⟨lo, hi⟩, ranged, -⟩ := Option.map_eq_some_iff.1 h
    exact .inr (.inr ⟨lo, hi, plainRange_of_settingRange ranged⟩)

theorem plainItem_bounds {n : Nat} (h : n = 0x540 ∨ n = 0x5B0 ∨ ∃ lo hi, plainRange n lo hi) : 0x500 ≤ n ∧ n ≤ 0x5FF := by
  rcases h with rfl | rfl | ⟨lo, hi, plain⟩
  · decide
  · decide
  · exact (plainRange_bounds plain).2

/-! ### What a write leaves (R162) -/

/-- The map's blocks before the settings'. -/
def State.unitBlocks (s : State) : List (Nat × List Int) :=
  s.viewBlocks ++ s.contractBlocks ++ [(0x200, s.gs.items), (0x280, s.auxItems), (0x300, s.blend.items)] ++ s.wheelBlocks ++
    [(0x400, s.wear.items)] ++ s.warn.blocks ++
    [(0x4C0, (s.port .traction).items), (0x4D0, (s.port .pack).items), (0x4E0, (s.port .genset).items),
      (0x4F0, (s.port .brake).items)]

theorem itemBlocks_eq (s : State) : s.itemBlocks = s.unitBlocks ++ s.settings.blocks ++ [(0x600, s.storeItems)] := rfl

theorem lookupItem_append (n : Nat) (a b : List (Nat × List Int)) : lookupItem n (a ++ b) = (lookupItem n a).or (lookupItem n b) := by
  induction a with
  | nil => rfl
  | cons c a ih =>
    obtain ⟨first, values⟩ := c
    rw [List.cons_append, lookupItem, lookupItem, ih]
    split
    · next inside => rw [List.getElem?_eq_getElem (by omega), Option.some_or]
    · rfl

/-- No unit's block before the settings' reaches their numbers. -/
theorem unitBlocks_below (s : State) {n : Nat} (above : 0x500 ≤ n) : lookupItem n s.unitBlocks = none := by
  have apart := itemBlocks_apart s
  rw [itemBlocks_eq, blocksApart, List.pairwise_append, List.pairwise_append] at apart
  obtain ⟨⟨-, -, before⟩, -⟩ := apart
  rw [← Option.not_isSome_iff_eq_none, Option.isSome_iff_exists, lookupItem_isSome]
  rintro ⟨b, mem, inside⟩
  have past := before b mem (0x500, _) List.mem_cons_self
  omega

theorem storeBlock_above (s : State) {n : Nat} (below : n ≤ 0x5FF) : lookupItem n [(0x600, s.storeItems)] = none := by
  rw [lookupItem, if_neg (by omega), lookupItem]

theorem readItem_settings (s : State) {n : Nat} (above : 0x500 ≤ n) (below : n ≤ 0x5FF) :
    s.readItem n = lookupItem n s.settings.blocks := by
  rw [State.readItem, itemBlocks_eq, lookupItem_append, lookupItem_append, unitBlocks_below s above, storeBlock_above s below,
    Option.none_or, Option.or_none]

/-- A settings write that moves one number of the map moves no other. -/
theorem readItem_written {s t : State} {n : Nat} {v : Int} (units : t.unitBlocks = s.unitBlocks) (store : t.storeItems = s.storeItems)
    (blocks : t.settings.blocks = setItem n v s.settings.blocks) (above : 0x500 ≤ n) (below : n ≤ 0x5FF)
    (read : ∃ u, s.readItem n = some u) : t.readItem n = some v ∧ ∀ m, m ≠ n → t.readItem m = s.readItem m := by
  refine ⟨?_, fun m ne => ?_⟩
  · rw [readItem_settings t above below, blocks]
    rw [readItem_settings s above below] at read
    exact lookupItem_setItem_self v read
  · rw [State.readItem, State.readItem, itemBlocks_eq, itemBlocks_eq, units, store, blocks, lookupItem_append, lookupItem_append,
      lookupItem_append, lookupItem_append, lookupItem_setItem_other ne]

/-- Of the settings, the blocks before their own show the vectors and the heat capacities alone. -/
theorem unitBlocks_settings (s : State) {x : Settings} (v : ServicePort) (vectors : x.vectors = s.settings.vectors)
    (capacity : x.heatCapacity = s.settings.heatCapacity) :
    ({ s with settings := x, svc := v } : State).unitBlocks = s.unitBlocks := by
  simp only [State.unitBlocks, State.wheelBlocks, State.auxItems, State.outputView, vectors, capacity]
  rfl

theorem writeItemOp_svc {s t : State} {n : Nat} {copy b : Bool} {v : Int} (h : s.writeItemOp n copy v = some (t, b)) :
    t.svc = s.svc := by
  have plain : (writeSetting s.settings n v).map (fun (x, d) => (({ s with settings := x } : State), d)) = some (t, b) →
      t.svc = s.svc := by
    intro e
    obtain ⟨x, -, e⟩ := Option.map_eq_some_iff.1 e
    cases e
    rfl
  have row : ∀ {u : State} {d : Bool} {l : List Piece}, some (u, d) = some (t, b) → Tidy l s u → .svc ∉ l → t.svc = s.svc := by
    intro u d l e within untouched
    cases e
    exact within.1 .svc untouched
  unfold State.writeItemOp at h
  generalize writeCommand n copy v = c at h
  cases c
  case writeChargeMark => exact row h (within_writeChargeMarkOp ..) (by decide)
  case writeCriticalMark => exact row h (within_writeCriticalMarkOp ..) (by decide)
  case writeModeVector => exact row h (within_writeModeVectorOp ..) (by decide)
  case writeRatedDraw => exact row h (within_writeRatedDrawOp ..) (by decide)
  case writePolarity => exact row h (within_writePolarityOp ..) (by decide)
  case writeFadeThreshold => exact row h (within_writeFadeThresholdOp ..) (by decide)
  case writePadAccount => exact row h (within_wheelsSaved ..) (by decide)
  case writePadLife => exact row h (within_wheelsSaved ..) (by decide)
  case writeHeatCapacity => exact row h (within_writeHeatCapacityOp ..) (by decide)
  case writeBatteryAccount => exact row h (within_batterySaved ..) (by decide)
  case writeBatteryLife => exact row h (within_batterySaved ..) (by decide)
  case writeEngineAccount => exact row h (within_engineSaved ..) (by decide)
  case writeEngineLife => exact row h (within_engineSaved ..) (by decide)
  case writeWarnGrade => exact row h (within_writeWarnGradeOp ..) (by decide)
  case writeDeliveryMask => exact row h (within_writeMaskOp ..) (by decide)
  all_goals exact plain h

/-! ### The commands on items -/

theorem execReadItem_cases (n : Nat) (s : State) :
    (s.readItem n = none → exec (.readItem n) s = .next (s.serviceAnswer (.readItem n) 0x60 (.refused .unknownItem))) ∧
      (∀ v, s.readItem n = some v →
        let t := s.serviceAnswer (.readItem n) 0x60 .done false (le32 v)
        exec (.readItem n) s = .next (if n = 0x209 then t.clearActivity else t)) := by
  refine ⟨fun unknown => ?_, fun v known => ?_⟩
  · simp only [exec, execReadItem, unknown]
  · simp only [exec, execReadItem, known]

theorem execWriteItem_cases (n : Nat) (copy : Bool) (v : Int) (s : State) :
    (∀ t b, s.writeItemOp n copy v = some (t, b) → exec (.writeItem n copy v) s = .next (t.writeDone (.writeItem n copy v) b)) ∧
      (s.writeItemOp n copy v = none →
        ((∃ u, s.readItem n = some u) → exec (.writeItem n copy v) s =
          .next (s.serviceAnswer (.writeItem n copy v) 0x61 (.refused .readOnly))) ∧
        ((¬ ∃ u, s.readItem n = some u) → exec (.writeItem n copy v) s =
          .next (s.serviceAnswer (.writeItem n copy v) 0x61 (.refused .unknownItem)))) := by
  refine ⟨fun t b taken => ?_, fun refused => ⟨fun known => ?_, fun unknown => ?_⟩⟩
  · simp only [exec, execWriteItem, taken]
  · rw [← Option.isSome_iff_exists] at known
    simp only [exec, execWriteItem, refused, known, if_true]
  · rw [← Option.isSome_iff_exists] at unknown
    simp only [exec, execWriteItem, refused, unknown, Bool.false_eq_true, if_false]

/-- Settles O57: the map, then each command by the number and what it is. -/
theorem itemsAreReadAndWritten : Obligations.ItemsAreReadAndWritten := by
  refine ⟨fun n s => readItem_isSome s n, State.itemsShown_holds, fun n s => ?_, fun n copy value s => ?_, fun on s => ?_⟩
  · obtain ⟨refuses, reads⟩ := execReadItem_cases n s
    cases known : s.readItem n with
    | none =>
      have unassigned : ¬ itemAssigned n := by
        rw [← readItem_isSome s]
        rintro ⟨v, h⟩
        exact nomatch known.symm.trans h
      exact ⟨_, refuses known, fun _ => ⟨rfl, State.serviceAnswer_replies rfl _ _ _ _ _⟩, (fun _ h => nomatch h)⟩
    | some v =>
      have assigned : itemAssigned n := (readItem_isSome s n).1 ⟨v, known⟩
      have replies := State.serviceAnswer_replies (s := s) rfl (.readItem n) 0x60 .done false (le32 v)
      refine ⟨_, reads v known, fun h => absurd assigned h, ?_⟩
      rintro _ ⟨⟩
      by_cases clearing : n = 0x209
      · rw [if_pos clearing]
        exact ⟨replies, fun h => absurd clearing h, fun _ => rfl⟩
      · rw [if_neg clearing]
        exact ⟨replies, fun _ => rfl, fun h => absurd h clearing⟩
  · obtain ⟨takes, refuses⟩ := execWriteItem_cases n copy value s
    cases taken : s.writeItemOp n copy value with
    | none =>
      obtain ⟨readOnly, unknown⟩ := refuses taken
      have fixed : ¬ itemWritable n := fun h => absurd (writeItemOp_isSome h s copy value) (by rw [taken]; decide)
      rw [readItem_isSome] at readOnly unknown
      by_cases assigned : itemAssigned n
      · exact ⟨_, readOnly assigned, fun h => absurd assigned h, fun _ _ => ⟨rfl, State.serviceAnswer_replies rfl _ _ _ _ _⟩,
          fun h => absurd h fixed, fun h => absurd h fixed⟩
      · exact ⟨_, unknown assigned, fun _ => ⟨rfl, State.serviceAnswer_replies rfl _ _ _ _ _⟩, fun h => absurd h assigned,
          fun h => absurd h fixed, fun h => absurd h fixed⟩
    | some result =>
      obtain ⟨a, b⟩ := result
      have replies : ∀ c, s.repliesService (a.writeDone c b) c (.answer 0x61 .done b []) := fun c =>
        State.serviceAnswer_replies (writeItemOp_svc taken) c 0x61 .done b []
      rcases writeItemOp_cases taken with ⟨x, plain, stored⟩ | ⟨own, ran⟩
      · have item := plainItem_of_writeSetting plain
        have row : writeCommand n copy value = .writeItem n copy value := writeCommand_plain item copy value
        have writable := itemWritable_of_plain item
        have assigned := itemAssigned_of_writable writable
        refine ⟨_, takes a b taken, fun h => absurd assigned h, fun _ h => absurd writable h, fun _ h => absurd row h,
          fun _ _ lawful => ?_⟩
        obtain ⟨v, kept, clamped⟩ := writeSetting_stored plain lawful.edges.1
        obtain ⟨above, below⟩ := plainItem_bounds item
        subst stored clamped
        obtain ⟨self, other⟩ := readItem_written (t := ({ s with settings := x } : State).writeDone (.writeItem n copy value) _)
          (unitBlocks_settings s _ kept.vectors kept.capacity) rfl kept.blocks above below ((readItem_isSome s n).2 assigned)
        exact ⟨v, rfl, self, other, replies _, kept.item, kept.period, kept.window⟩
      · have writable := itemWritable_of_row own
        have assigned := itemAssigned_of_writable writable
        refine ⟨_, takes a b taken, fun h => absurd assigned h, fun _ h => absurd writable h, fun _ _ => ⟨⟨b, replies _⟩, fun u h => ?_⟩,
          fun _ h => absurd h (own _ _ _)⟩
        rw [ran] at h
        cases h
        rfl
  · by_cases same : s.quiet = on
    · have ran : exec (.setQuietZone on) s = .next (s.serviceDone (.setQuietZone on) 0x66) := by
        change Host.Outcome.next ((s.changeQuiet on).serviceDone _ _) = _
        rw [State.changeQuiet, if_pos same]
      refine ⟨_, ran, ?_, State.serviceDone_replies rfl _ _, fun _ => rfl, fun h => absurd same h⟩
      rw [← same]
      rfl
    · have ran : exec (.setQuietZone on) s =
          .next ((({ s with quiet := on }).raise .quietZoneChange).raise (.quietZoneSequencer on) |>.serviceDone (.setQuietZone on) 0x66) := by
        change Host.Outcome.next ((s.changeQuiet on).serviceDone _ _) = _
        rw [State.changeQuiet, if_neg same]
      exact ⟨_, ran, rfl, State.serviceDone_replies rfl _ _, fun h => absurd h same, fun _ => List.append_assoc ..⟩

end Sys2Proof.Machine

/-! ## The Contract Unit's notices, runs, rounds and drops (chapters 2 and 3) -/

namespace Sys2Proof.Machine

/-! ### Notices to several ports (R153) -/

theorem State.notify_cons (s : State) (p : Port) (ps : List Port) (n : Notice) : s.notify (p :: ps) n = (s.submit p n).notify ps n := rfl

/-- A notice that waits still waits when the same notice is submitted again. -/
theorem State.mem_submit_of_mem {s : State} {p : Port} {n : Notice} (h : n ∈ (s.port p).queue) (q : Port) :
    n ∈ ((s.submit q n).port p).queue := by
  by_cases e : p = q
  · rw [← e, State.submit_port_self]
    by_cases a : (s.port p).state = .up ∨ ((s.port p).state = .lost ∧ n.cls = .contract)
    · rw [PartnerPort.submit_queue a]
      exact mem_enqueue _ _
    · rw [PartnerPort.submit_refused a]
      exact h
  · rwa [State.submit_port_other s n e]

theorem State.mem_notify_of_mem {s : State} {p : Port} {n : Notice} (h : n ∈ (s.port p).queue) (ps : List Port) :
    n ∈ ((s.notify ps n).port p).queue := by
  induction ps generalizing s with
  | nil => exact h
  | cons q ps ih => exact ih (State.mem_submit_of_mem h q)

/-- A CONTRACT notice waits on every port of the list that is not DOWN. -/
theorem State.mem_notify {s : State} {p : Port} {ps : List Port} {n : Notice} (told : p ∈ ps) (cls : n.cls = .contract)
    (state : (s.port p).state ≠ .down) : n ∈ ((s.notify ps n).port p).queue := by
  induction ps generalizing s with
  | nil => cases told
  | cons q ps ih =>
    by_cases e : p = q
    · refine State.mem_notify_of_mem ?_ ps
      have takes : (s.port p).state = .up ∨ ((s.port p).state = .lost ∧ n.cls = .contract) := by
        cases k : (s.port p).state with
        | up => exact .inl rfl
        | lost => exact .inr ⟨rfl, cls⟩
        | down => exact absurd k state
      rw [← e, State.submit_port_self, PartnerPort.submit_queue takes]
      exact mem_enqueue _ _
    · refine ih ((List.mem_cons.1 told).resolve_left e) ?_
      rwa [State.submit_port_other s n e]

/-- A port that is not on the list is not touched. -/
theorem State.notify_port_other {s : State} {p : Port} {ps : List Port} {n : Notice} (h : p ∉ ps) : (s.notify ps n).port p = s.port p := by
  induction ps generalizing s with
  | nil => rfl
  | cons q ps ih =>
    obtain ⟨ne, rest⟩ := not_or.1 (mt List.mem_cons.2 h)
    rw [State.notify_cons, ih rest, State.submit_port_other s n ne]

@[simp] theorem State.notify_view (s : State) (ps : List Port) (n : Notice) : (s.notify ps n).view = s.view :=
  (within_notify s ps n).1 .view (by decide)

@[simp] theorem State.notify_signals (s : State) (ps : List Port) (n : Notice) : (s.notify ps n).signals = s.signals :=
  (within_notify s ps n).1 .signals (by decide)

/-- Every port named is told, whatever the other parts of the state are. -/
theorem State.queuedOn_notify {s u t : State} (before : u.ports = s.ports) {who : Port → Prop} {ps : List Port} {n : Notice}
    (told : ∀ p, who p → p ∈ ps) (cls : n.cls = .contract) (after : t.ports = (u.notify ps n).ports) : s.queuedOn t who n := by
  intro p named state
  rw [State.port_congr after]
  exact State.mem_notify (told p named) cls (by rwa [State.port_congr before])

theorem mem_allPorts (p : Port) : p ∈ Port.all := by cases p <;> decide

theorem PartySet.mem_ports {x : PartySet} {p : Port} (h : x.tells p) : p ∈ x.ports := by
  obtain ⟨t, k, g⟩ := x
  cases p with
  | traction => cases h; simp [PartySet.ports]
  | pack => cases h; simp [PartySet.ports]
  | genset => cases h; simp [PartySet.ports]
  | brake => exact h.elim

/-! ### Free values, genset wanted (R35) -/

@[simp] theorem State.usedInputs_ports (s : State) : s.usedInputs.ports = s.ports := (within_usedInputs s).1 .ports (by decide)
@[simp] theorem State.usedInputs_view (s : State) : s.usedInputs.view = s.view := (within_usedInputs s).1 .view (by decide)
@[simp] theorem State.usedInputs_signals (s : State) : s.usedInputs.signals = s.signals := (within_usedInputs s).1 .signals (by decide)
@[simp] theorem State.usedInputs_quiet (s : State) : s.usedInputs.quiet = s.quiet := (within_usedInputs s).1 .quiet (by decide)
@[simp] theorem State.usedInputs_settings (s : State) : s.usedInputs.settings = s.settings := (within_usedInputs s).1 .settings (by decide)

@[simp] theorem State.setWanted_ports (s : State) (w : Bool) : (s.setWanted w).ports = s.ports := (within_setWanted s w).1 .ports (by decide)
@[simp] theorem State.setWanted_view (s : State) (w : Bool) : (s.setWanted w).view = s.view := (within_setWanted s w).1 .view (by decide)
@[simp] theorem State.setWanted_quiet (s : State) (w : Bool) : (s.setWanted w).quiet = s.quiet := (within_setWanted s w).1 .quiet (by decide)
@[simp] theorem State.setWanted_settings (s : State) (w : Bool) : (s.setWanted w).settings = s.settings :=
  (within_setWanted s w).1 .settings (by decide)

/-- A changed level of genset wanted is raised as an event with its cause (R35, R64). -/
@[simp] theorem State.setWanted_signals (s : State) (w : Bool) :
    (s.setWanted w).signals =
      s.signals ++ if s.cu.gensetWanted = w then [] else [.gensetWantedChange w (if s.cu.chargeNeed then .charge else .demand)] := by
  unfold State.setWanted
  split
  · simp
  · rfl

/-- Genset wanted is the charge need, or a genset offer in the second pass (R35). -/
theorem State.wants_iff (s : State) :
    s.inputs.wants = true ↔ s.cu.chargeNeed = true ∨ ∃ u, (s.inputs.pass true).result = .ok u ∧ u.gensetIndex ≠ none := by
  have need : s.inputs.need = s.cu.chargeNeed := rfl
  unfold Inputs.wants
  rw [need]
  cases (s.inputs.pass true).result with
  | ok u => simp [Option.isSome_iff_ne_none]
  | error r => simp

/-- Genset wanted has been evaluated when the record holds the level and the signals of that evaluation stand. -/
theorem State.wantedFrom_of {s t : State} (level : t.cu.gensetWanted = s.inputs.wants)
    (raised : ∀ c, c ∈ (s.setWanted s.inputs.wants).signals → c ∈ t.signals) : s.wantedFrom t := by
  unfold State.wantedFrom
  rw [level]
  refine ⟨s.wants_iff, fun changed => raised _ ?_⟩
  rw [State.setWanted_signals, if_neg fun e => changed e.symm]
  simp

theorem State.evaluateWanted_wanted (s : State) : s.wantedFrom s.evaluateWanted :=
  State.wantedFrom_of (by simp) fun c h => by simpa [State.evaluateWanted] using h

theorem State.evaluateWanted_within (s : State) : Within [.cu, .signals, .freeCount] s s.evaluateWanted :=
  (((within_setWanted s _).mono (by decide)).trans ((within_usedInputs _).mono (by decide))).1

/-! ### Drops (R60) -/

@[simp] theorem State.levelsFrom_ports (s : State) (m : Bool) (g : Gate) : (s.levelsFrom m g).ports = s.ports := State.handLevels_ports _ _
@[simp] theorem State.levelsFrom_view (s : State) (m : Bool) (g : Gate) : (s.levelsFrom m g).view = s.view := State.handLevels_view _ _

/-- Signals raised before still stand when levels have been handed on. -/
theorem State.mem_levelsFrom {s : State} {m : Bool} {g : Gate} {c : Instr} (h : c ∈ s.signals) : c ∈ (s.levelsFrom m g).signals := by
  unfold State.levelsFrom
  rw [State.handLevels_signals]
  exact List.mem_append_left _ h

theorem ContractUnit.activeNumber_match (c : ContractUnit) :
    c.activeNumber = match c.active with | some a => a.number | none => 0 := by
  unfold ContractUnit.activeNumber
  cases c.active <;> rfl

theorem DropReason.gate_eq (r : DropReason) : r.gate = if r = .keyOff ∨ r = .drivelineReset then .blocked else .safe := by
  cases r <;> rfl

theorem State.drop_view (s : State) (r : DropReason) : (s.drop r).view = { s.view with reference := none } := by simp [State.drop]

theorem State.drop_ports (s : State) (r : DropReason) : (s.drop r).ports = (s.notify Port.all (.contractDropped s.cu.activeNumber r)).ports := by
  simp [State.drop]
  rfl

theorem State.mem_drop_signals {s : State} {r : DropReason} {c : Instr}
    (h : c ∈ s.signals ∨ (s.cu.active.isSome = true ∧ c = .commitmentHanded 0 none) ∨ c = .blendImmediateRun ∨ c = .modeDerivation) :
    c ∈ (s.drop r).signals := by
  refine State.mem_levelsFrom ?_
  rcases h with h | ⟨e, rfl⟩ | rfl | rfl <;> simp_all

/-- What a drop leaves, in a state that differs from `s` in nothing the drop reads. -/
theorem State.drop_droppedFor {s u : State} (active : u.cu.active = s.cu.active) (counter : u.cu.counter = s.cu.counter)
    (need : u.cu.chargeNeed = s.cu.chargeNeed) (ports : u.ports = s.ports) (r : DropReason) : s.droppedFor (u.drop r) r where
  gate := by rw [State.drop_cu]; exact r.gate_eq
  flags := by
    rw [State.drop_cu]
    exact fun safe => ⟨if_pos safe, if_pos safe⟩
  active := by rw [State.drop_cu]; rfl
  proposal := by rw [State.drop_cu]; rfl
  round := by rw [State.drop_cu]; rfl
  settled := by rw [State.drop_cu]; rfl
  window := by rw [State.drop_cu]; rfl
  rest := by rw [State.drop_cu]; rfl
  peak := by rw [State.drop_cu]; rfl
  wanted := by rw [State.drop_cu]
  record := by
    rw [State.drop_cu, ← active]
    exact congrArg (fun n => some (LastDrop.mk r n)) u.cu.activeNumber_match
  counter := by rw [State.drop_cu]; exact counter
  need := by rw [State.drop_cu]; exact need
  reference := by rw [State.drop_view]
  notices := by
    rw [← active]
    exact State.queuedOn_notify ports (ps := Port.all) (fun p _ => mem_allPorts p) rfl
      ((State.drop_ports u r).trans
        (congrArg (fun n => (u.notify Port.all (.contractDropped n r)).ports) u.cu.activeNumber_match))
  blend := State.mem_drop_signals (.inr (.inr (.inl rfl)))
  mode := State.mem_drop_signals (.inr (.inr (.inr rfl)))
  commitment := fun some_ => State.mem_drop_signals (.inr (.inl ⟨Option.isSome_iff_ne_none.2 (active ▸ some_), rfl⟩))

/-! ### The records of a run (R20, R34, R35) -/

@[simp] theorem State.runRecords_ports (s : State) : s.runRecords.ports = s.ports := by simp [State.runRecords]
@[simp] theorem State.runRecords_quiet (s : State) : s.runRecords.quiet = s.quiet := by simp [State.runRecords]
@[simp] theorem State.runRecords_settings (s : State) : s.runRecords.settings = s.settings := by simp [State.runRecords]

/-- The reference follows the traction report only while no contract is active (R13). -/
theorem State.runRecords_view (s : State) :
    s.runRecords.view = { s.view with
      reference := if s.cu.active = none then some (s.inputs.req, s.inputs.minimum) else s.view.reference } := by
  simp only [State.runRecords, State.usedInputs_view, State.setWanted_view]
  cases s.cu.active <;> rfl

theorem State.runRecords_wanted {s t : State} (level : t.cu.gensetWanted = s.inputs.wants)
    (raised : ∀ c, c ∈ s.runRecords.signals → c ∈ t.signals) : s.wantedFrom t :=
  State.wantedFrom_of level fun c h => raised c (by
    simp only [State.runRecords, State.usedInputs_signals]
    simpa using h)

theorem State.recordedFrom_of {s t : State}
    (h : t.cu.lastSelection = recordOf (s.inputs.pass s.inputs.online) s.runOutcome) : s.recordedFrom t := by
  unfold State.recordedFrom
  rw [h]
  unfold State.runOutcome outcomeOf
  cases result : (s.inputs.pass s.inputs.online).result with
  | error r => rfl
  | ok u =>
    cases s.cu.active with
    | none => cases u.mismatch with
      | none => rfl
      | some k => cases k <;> rfl
    | some a =>
      dsimp only [Option.map_some]
      by_cases e : a.terms = u
      · rw [if_pos e, if_pos (congrArg some e)]
        cases k : u.mismatch with
        | none => simp only [recordOf, result, k, mismatchReason]; rfl
        | some m => cases m <;> simp only [recordOf, result, k, mismatchReason] <;> rfl
      · rw [if_neg e, if_neg fun k => e (Option.some.inj k)]
        cases k : u.mismatch with
        | none => simp only [recordOf, k, mismatchReason]; rfl
        | some m => cases m <;> simp only [recordOf, k, mismatchReason] <;> rfl

/-! ### Outcomes (R33) -/

theorem State.runOutcome_propose {s : State} {u : Terms} (result : (s.inputs.pass s.inputs.online).result = .ok u)
    (differ : ∀ a, s.cu.active = some a → a.terms ≠ u) : s.runOutcome = .propose u := by
  unfold State.runOutcome outcomeOf
  rw [result]
  cases active : s.cu.active with
  | none => rfl
  | some a => exact if_neg (differ a active)

theorem State.runOutcome_same {s : State} {u : Terms} {a : Contract} (result : (s.inputs.pass s.inputs.online).result = .ok u)
    (active : s.cu.active = some a) (terms : a.terms = u) : s.runOutcome = .same := by
  unfold State.runOutcome outcomeOf
  rw [result, active]
  exact if_pos terms

theorem State.runOutcome_none {s : State} {r : SelectionReason} (result : (s.inputs.pass s.inputs.online).result = .error r) :
    s.runOutcome = .none r := by
  unfold State.runOutcome outcomeOf
  rw [result]

/-- The three ways a run can come out. -/
theorem State.runOutcome_cases (s : State) :
    (∃ u, (s.inputs.pass s.inputs.online).result = .ok u ∧ ∀ a, s.cu.active = some a → a.terms ≠ u) ∨
      (∃ a, (s.inputs.pass s.inputs.online).result = .ok a.terms ∧ s.cu.active = some a) ∨
      ∃ r, (s.inputs.pass s.inputs.online).result = .error r := by
  cases (s.inputs.pass s.inputs.online).result with
  | error r => exact .inr (.inr ⟨r, rfl⟩)
  | ok u =>
    by_cases h : ∀ a, s.cu.active = some a → a.terms ≠ u
    · exact .inl ⟨u, rfl, h⟩
    · push Not at h
      obtain ⟨a, active, rfl⟩ := h
      exact .inr (.inl ⟨a, rfl, active⟩)

/-! ### Proposals (R41 to R43) -/

theorem ContractUnit.nextNumber_eq (c : ContractUnit) : c.nextNumber = numberAfter c.counter c.active := by
  unfold ContractUnit.nextNumber numberAfter advance
  cases c.active with
  | none => simp
  | some a => simp [eq_comm]

/-- Terms are proposed, from a state that differs from `s` in nothing the proposal reads. -/
theorem State.propose_proposed {s u : State} (counter : u.cu.counter = s.cu.counter) (active : u.cu.active = s.cu.active)
    (settled : u.cu.settled = s.cu.settled) (storage : u.view.storageSerial = s.view.storageSerial)
    (genset : u.view.gensetSerial = s.view.gensetSerial) (ports : u.ports = s.ports) (settings : u.settings = s.settings)
    (count : Nat) (t : Terms) : s.proposed (u.propose count t) count t := by
  have number : u.cu.nextNumber = numberAfter s.cu.counter s.cu.active := by rw [ContractUnit.nextNumber_eq, counter, active]
  refine ⟨?_, ?_, by rw [State.propose_cu], ?_, ?_, ?_, ?_⟩
  · rw [State.propose_cu, number, storage, genset]
    rfl
  · rw [State.propose_cu, number]
  · rw [State.propose_cu, settings]
  · rw [State.propose_cu, active]
  · rw [State.propose_cu, settled]
  · rw [← number]
    exact State.queuedOn_notify (u := u.onCu _) ports (fun p h => PartySet.mem_ports h) rfl rfl

end Sys2Proof.Machine

/-! ## Runs in each round state, triggers and the gate (R37, R42, R46, R47, R50, R52) -/

namespace Sys2Proof.Machine

/-! ### The end of a round and one run, in one step each

The model clears the reselect-when-settled flag and takes its run after the round has ended. `closeRound` and `runOnce` are the
round's end and a run with the flag cleared and no further run; the model's operations are these, with one more run when the flag
was set. -/

/-- The round ended with the flag cleared (R47). -/
def State.closeRound (s : State) : State :=
  s.onCu fun c => { c with
    proposal := none, window := .stopped, settled := false
    round := if c.active = none then .resting else .idle
    rest := if c.active = none then .running 500 else c.rest }

/-- No contract is active, or the active one's offer still stands (R50). -/
def State.keepsActive (s : State) : Bool :=
  match s.cu.active with
  | none => true
  | some c => s.activeOfferStands c

/-- One run, as the `count`th of its round, within a round or not, with the flag not acted on. -/
def State.runOnce (s : State) (count : Nat) (within : Bool) : State :=
  match s.runOutcome with
  | .propose t => s.runRecords.propose count t
  | .same => if within then s.runRecords.closeRound else s.runRecords
  | .none r => if s.keepsActive then s.runRecords.closeRound else s.runRecords.drop (dropReasonOf r)

@[simp] theorem State.closeRound_cu (s : State) :
    s.closeRound.cu = { s.cu with
      proposal := none, window := .stopped, settled := false
      round := if s.cu.active = none then .resting else .idle
      rest := if s.cu.active = none then .running 500 else s.cu.rest } := rfl

/-- A round's end with the flag set and a contract active takes one more run (R47, R52). -/
theorem State.endRound_eq (s : State) :
    s.endRound = if s.cu.settled = true ∧ s.cu.active ≠ none then s.closeRound.runClear else s.closeRound := by
  unfold State.endRound State.closeRound
  cases active : s.cu.active with
  | none => simp [State.onCu, ContractUnit.resting, active]
  | some c =>
    cases settled : s.cu.settled with
    | false => simp [State.actOnFlag, State.onCu, ContractUnit.settledIdle, active, settled]
    | true => simp [State.actOnFlag, State.onCu, ContractUnit.settledIdle, active, settled]

/-- Records leave the contract and its list as they were. -/
theorem State.runRecords_keepsActive (s : State) : s.runRecords.keepsActive = s.keepsActive := by
  simp only [State.keepsActive, State.runRecords_cu, State.activeOfferStands, State.runRecords_view, State.runRecords_quiet]

/-- A NONE outcome with the flag not acted on. -/
theorem State.noneOutcome_clear {s : State} (clear : s.cu.settled = false) (r : SelectionReason) :
    (s.noneOutcome r).1 = if s.keepsActive then s.closeRound else s.drop (dropReasonOf r) := by
  unfold State.noneOutcome State.keepsActive State.closeRound
  cases active : s.cu.active with
  | none => simp [State.onCu, ContractUnit.resting, active]
  | some c =>
    dsimp only
    split
    · simp [State.onCu, ContractUnit.settledIdle, active, clear]
    · rfl

/-- A NONE outcome with the flag acted on. -/
theorem State.noneOutcome_flagged (s : State) (r : SelectionReason) :
    (if (s.noneOutcome r).2 then (s.noneOutcome r).1.actOnFlag else (s.noneOutcome r).1) =
      if s.keepsActive then s.endRound else s.drop (dropReasonOf r) := by
  unfold State.noneOutcome State.keepsActive State.endRound
  cases active : s.cu.active with
  | none => rfl
  | some c =>
    dsimp only
    split <;> rfl

theorem State.runClear_eq {s : State} (clear : s.cu.settled = false) : s.runClear = s.runOnce 1 false := by
  unfold State.runClear State.runOnce
  cases s.runOutcome with
  | propose t => rfl
  | same => rfl
  | none r =>
    dsimp only
    rw [State.noneOutcome_clear (by rw [State.runRecords_cu]; exact clear), State.runRecords_keepsActive]

theorem State.closeRound_runClear (s : State) : s.closeRound.runClear = s.closeRound.runOnce 1 false := State.runClear_eq rfl

/-! ### Where a run ends a round with a contract active -/

theorem State.activeOfferStands_iff (s : State) (a : Contract) : s.activeOfferStands a = true ↔ s.restsOnUsable a := by
  unfold State.activeOfferStands State.restsOnUsable entryAt
  cases s.view.storage with
  | none => cases a.terms.storageIndex <;> simp
  | some l =>
    cases a.terms.storageIndex with
    | zero => simp
    | succ i =>
      cases o : l.content[i]? with
      | none => simp [o]
      | some o' => cases q : s.quiet <;> simp [o, Offer.standsIn]

theorem State.keepsActive_iff (s : State) : s.keepsActive = true ↔ ∀ a, s.cu.active = some a → s.restsOnUsable a := by
  unfold State.keepsActive
  cases s.cu.active with
  | none => simp
  | some c => simp [State.activeOfferStands_iff]

theorem State.endsWithContract_propose {s : State} {u : Terms} {within : Bool}
    (result : (s.inputs.pass s.inputs.online).result = .ok u) (differ : ∀ a, s.cu.active = some a → a.terms ≠ u) :
    ¬ s.endsWithContract within := by
  rintro ⟨a, active, ⟨u', result', terms, -⟩ | ⟨r, result', -⟩⟩
  · rw [result] at result'
    cases result'
    exact differ a active terms
  · rw [result] at result'
    cases result'

theorem State.endsWithContract_same {s : State} {a : Contract} {within : Bool}
    (result : (s.inputs.pass s.inputs.online).result = .ok a.terms) (active : s.cu.active = some a) :
    s.endsWithContract within ↔ within = true := by
  constructor
  · rintro ⟨b, -, ⟨u', -, -, w⟩ | ⟨r, result', -⟩⟩
    · exact w
    · rw [result] at result'
      cases result'
  · exact fun w => ⟨a, active, .inl ⟨_, result, rfl, w⟩⟩

theorem State.endsWithContract_none {s : State} {r : SelectionReason} {within : Bool}
    (result : (s.inputs.pass s.inputs.online).result = .error r) :
    s.endsWithContract within ↔ s.keepsActive = true ∧ s.cu.active ≠ none := by
  rw [State.keepsActive_iff]
  constructor
  · rintro ⟨a, active, ⟨u', result', -, -⟩ | ⟨r, -, usable⟩⟩
    · rw [result] at result'
      cases result'
    · refine ⟨fun b e => ?_, by simp [active]⟩
      rw [active] at e
      cases e
      exact usable
  · rintro ⟨usable, some_⟩
    obtain ⟨a, active⟩ := Option.ne_none_iff_exists'.1 some_
    exact ⟨a, active, .inr ⟨r, result, usable a active⟩⟩

/-! ### A run with the flag not acted on -/

theorem State.runOnce_propose {s : State} {u : Terms} (result : (s.inputs.pass s.inputs.online).result = .ok u)
    (differ : ∀ a, s.cu.active = some a → a.terms ≠ u) (count : Nat) (within : Bool) :
    s.runOnce count within = s.runRecords.propose count u := by
  unfold State.runOnce
  rw [State.runOutcome_propose result differ]

theorem State.runOnce_same {s : State} {a : Contract} (result : (s.inputs.pass s.inputs.online).result = .ok a.terms)
    (active : s.cu.active = some a) (count : Nat) (within : Bool) :
    s.runOnce count within = if within then s.runRecords.closeRound else s.runRecords := by
  unfold State.runOnce
  rw [State.runOutcome_same result active rfl]

theorem State.runOnce_none {s : State} {r : SelectionReason} (result : (s.inputs.pass s.inputs.online).result = .error r)
    (count : Nat) (within : Bool) :
    s.runOnce count within = if s.keepsActive then s.runRecords.closeRound else s.runRecords.drop (dropReasonOf r) := by
  unfold State.runOnce
  rw [State.runOutcome_none result]

theorem within_closeRound (s : State) : Tidy [.cu] s s.closeRound := within_onCu s _

theorem within_runOnce (s : State) (count : Nat) (within : Bool) : Tidy contractPieces s (s.runOnce count within) := by
  refine (within_runRecords s).trans ?_
  have closes := (within_closeRound s.runRecords).mono (m := contractPieces) (by decide)
  unfold State.runOnce
  split
  · exact within_propose _ _ _
  · exact Tidy.ite closes (Tidy.refl _ _)
  · exact Tidy.ite closes (within_drop _ _)

theorem State.closeRound_ended (s : State) : s.roundEnded s.runRecords.closeRound := by
  refine ⟨s.runRecords_ports, ?_⟩
  rw [State.closeRound_cu, State.runRecords_cu]

/-- With no terms formed the reason is one of R32's two (R32). -/
theorem dropReasonOf_pass {x : Inputs} {online : Bool} {r : SelectionReason} (h : (x.pass online).result = .error r) :
    dropReasonOf r = if r = .supplyBelowAux then .supplyBelowAux else .noStorageOffer := by
  cases r <;> rfl

/-- A run is taken as R33 to R35, R42, R46 and R50 say. -/
theorem State.runOnce_ran (s : State) (count : Nat) (within : Bool) : s.ran (s.runOnce count within) count within := by
  have counter : s.runRecords.cu.counter = s.cu.counter := by rw [State.runRecords_cu]
  have active : s.runRecords.cu.active = s.cu.active := by rw [State.runRecords_cu]
  have settled : s.runRecords.cu.settled = s.cu.settled := by rw [State.runRecords_cu]
  have need : s.runRecords.cu.chargeNeed = s.cu.chargeNeed := by rw [State.runRecords_cu]
  have closed : s.wantedFrom s.runRecords.closeRound :=
    State.runRecords_wanted (by rw [State.closeRound_cu, State.runRecords_cu]) fun c h => h
  have noUsable : (∀ a, s.cu.active = some a → s.restsOnUsable a) → s.keepsActive = true := s.keepsActive_iff.2
  refine ⟨(within_runOnce s count within).1, State.recordedFrom_of ?_, ?_, ?_, ?_, ?_, ?_, ?_⟩
  · unfold State.runOnce
    split
    · rw [State.propose_cu, State.runRecords_cu]
    · split
      · rw [State.closeRound_cu, State.runRecords_cu]
      · rw [State.runRecords_cu]
    · split
      · rw [State.closeRound_cu, State.runRecords_cu]
      · rw [State.drop_cu, State.runRecords_cu]
        rfl
  · intro u result differ
    rw [State.runOnce_propose result differ]
    refine ⟨State.propose_proposed counter active settled ?_ ?_ s.runRecords_ports s.runRecords_settings count u, ?_⟩
    · rw [State.runRecords_view]
    · rw [State.runRecords_view]
    · refine State.runRecords_wanted (by rw [State.propose_cu, State.runRecords_cu]) fun c h => ?_
      simpa [State.propose] using h
  · rintro u a result act rfl
    rw [State.runOnce_same result act]
    cases within with
    | true => exact ⟨closed, s.closeRound_ended⟩
    | false =>
      rw [if_neg Bool.false_ne_true]
      refine ⟨State.runRecords_wanted (by rw [State.runRecords_cu]) fun c h => h, s.runRecords_ports, ?_⟩
      rw [State.runRecords_cu]
  · intro r result usable
    rw [State.runOnce_none result, if_pos (noUsable usable)]
    exact ⟨closed, s.closeRound_ended⟩
  · intro r a result act unusable
    have drops : ¬ s.keepsActive = true := fun k => unusable (s.keepsActive_iff.1 k a act)
    rw [State.runOnce_none result, if_neg drops, ← dropReasonOf_pass result]
    exact State.drop_droppedFor active counter need s.runRecords_ports _
  · unfold State.runOnce
    split
    · rw [State.propose, State.notify_view, State.onCu_view, State.runRecords_view]
    · split
      · rw [State.closeRound, State.onCu_view, State.runRecords_view]
      · rw [State.runRecords_view]
    · split
      · rw [State.closeRound, State.onCu_view, State.runRecords_view]
      · rw [State.drop_view, State.runRecords_view]
  · intro idle
    have keeps : s.keepsActive = true := s.keepsActive_iff.2 fun a e => by rw [idle] at e; cases e
    have reference : s.runRecords.view.reference = some (s.inputs.req, s.inputs.minimum) := by
      rw [State.runRecords_view]
      exact if_pos idle
    unfold State.runOnce
    split
    · rw [State.propose, State.notify_view, State.onCu_view, reference]
    · split
      · exact reference
      · exact reference
    · rw [if_pos keeps]
      exact reference

/-! ### Runs with the flag acted on (R52) -/

/-- A run is taken with its flag: one more run where a set flag meets a round that ends with a contract active. -/
theorem State.ranWithFlag_of {s t : State} {count : Nat} {within : Bool}
    (again : s.cu.settled = true → s.endsWithContract within →
      s.runOnce count within = s.runRecords.closeRound ∧ t = s.runRecords.closeRound.runClear)
    (once : s.cu.settled = false ∨ ¬ s.endsWithContract within → t = s.runOnce count within) : s.ranWithFlag t count within := by
  refine ⟨fun set ends => ?_, fun h => ?_⟩
  · obtain ⟨first, second⟩ := again set ends
    refine ⟨s.runRecords.closeRound, first ▸ s.runOnce_ran count within, rfl, ?_⟩
    rw [second, State.closeRound_runClear]
    exact State.runOnce_ran _ 1 false
  · rw [once h]
    exact s.runOnce_ran count within

/-- The end of a round after a run's records, by the flag and the contract. -/
theorem State.runRecords_endRound (s : State) :
    s.runRecords.endRound =
      if s.cu.settled = true ∧ s.cu.active ≠ none then s.runRecords.closeRound.runClear else s.runRecords.closeRound := by
  rw [State.endRound_eq, State.runRecords_cu]

/-- A NONE outcome takes one more run exactly when the flag is set and the round ends with the contract active. -/
theorem State.none_ranWithFlag {s t : State} {r : SelectionReason} (result : (s.inputs.pass s.inputs.online).result = .error r)
    (h : t = if s.keepsActive then s.runRecords.endRound else s.runRecords.drop (dropReasonOf r)) (count : Nat) (within : Bool) :
    s.ranWithFlag t count within := by
  refine State.ranWithFlag_of (fun set ends => ?_) fun calm => ?_
  · obtain ⟨keeps, some_⟩ := (State.endsWithContract_none result).1 ends
    rw [State.runOnce_none result, if_pos keeps, h, if_pos keeps, State.runRecords_endRound, if_pos ⟨set, some_⟩]
    exact ⟨rfl, rfl⟩
  · rw [State.runOnce_none result, h]
    by_cases keeps : s.keepsActive = true
    · have still : ¬ (s.cu.settled = true ∧ s.cu.active ≠ none) := fun ⟨set, some_⟩ =>
        calm.elim (fun c => absurd (set.symm.trans c) nofun) fun c => c ((State.endsWithContract_none result).2 ⟨keeps, some_⟩)
      rw [if_pos keeps, if_pos keeps, State.runRecords_endRound, if_neg still]
    · rw [if_neg keeps, if_neg keeps]

theorem State.runIdle_ranWithFlag (s : State) : s.ranWithFlag s.runIdle 1 false := by
  rcases s.runOutcome_cases with ⟨u, result, differ⟩ | ⟨a, result, active⟩ | ⟨r, result⟩
  · refine State.ranWithFlag_of (fun _ ends => absurd ends (State.endsWithContract_propose result differ)) fun _ => ?_
    rw [State.runOnce_propose result differ, State.runIdle, State.runOutcome_propose result differ]
  · refine State.ranWithFlag_of (fun _ ends => absurd ((State.endsWithContract_same result active).1 ends) nofun) fun _ => ?_
    rw [State.runOnce_same result active, State.runIdle, State.runOutcome_same result active rfl]
    rfl
  · refine State.none_ranWithFlag result ?_ 1 false
    rw [State.runIdle, State.runOutcome_none result, ← State.runRecords_keepsActive, ← State.noneOutcome_flagged]

theorem State.runInRound_ranWithFlag (s : State) (n : Nat) : s.ranWithFlag (s.runInRound n) (n + 1) true := by
  rcases s.runOutcome_cases with ⟨u, result, differ⟩ | ⟨a, result, active⟩ | ⟨r, result⟩
  · refine State.ranWithFlag_of (fun _ ends => absurd ends (State.endsWithContract_propose result differ)) fun _ => ?_
    rw [State.runOnce_propose result differ, State.runInRound, State.runOutcome_propose result differ]
  · have run : s.runInRound n = s.runRecords.endRound := by rw [State.runInRound, State.runOutcome_same result active rfl]
    have once : s.runOnce (n + 1) true = s.runRecords.closeRound := State.runOnce_same result active _ _
    refine State.ranWithFlag_of (fun set _ => ⟨once, ?_⟩) fun calm => ?_
    · rw [run, State.runRecords_endRound, if_pos ⟨set, by simp [active]⟩]
    · have clear : s.cu.settled = false := calm.resolve_right fun c => c ((State.endsWithContract_same result active).2 rfl)
      rw [run, once, State.runRecords_endRound, if_neg fun h => absurd (h.1.symm.trans clear) nofun]
  · refine State.none_ranWithFlag result ?_ (n + 1) true
    rw [State.runInRound, State.runOutcome_none result, ← State.runRecords_keepsActive, ← State.noneOutcome_flagged]

/-! ### Triggers (R39, R51, R52) -/

theorem State.trigger_closed {s : State} (h : s.cu.gate ≠ .opened) : s.trigger = s :=
  if_neg fun o => h (isOpen_iff.1 o)

theorem State.trigger_idle {s : State} (h : s.cu.gate = .opened) (idle : s.cu.round = .idle) : s.trigger = s.runIdle := by
  unfold State.trigger
  rw [if_pos (isOpen_iff.2 h), idle]

theorem State.trigger_resting {s : State} (h : s.cu.gate = .opened) (resting : s.cu.round = .resting) : s.trigger = s.evaluateWanted := by
  unfold State.trigger
  rw [if_pos (isOpen_iff.2 h), resting]

theorem State.trigger_inRound {s : State} {n : Nat} (h : s.cu.gate = .opened) (round : s.cu.round = .inRound n) :
    s.trigger = (s.onCu fun c => { c with settled := true }).evaluateWanted := by
  unfold State.trigger
  rw [if_pos (isOpen_iff.2 h), round]

theorem State.trigger_triggered (s : State) : s.triggered s.trigger where
  closed h := State.trigger_closed h
  runs h idle := State.trigger_idle h idle ▸ s.runIdle_ranWithFlag
  absorbed h resting := by
    rw [State.trigger_resting h resting]
    refine ⟨s.evaluateWanted_within, s.evaluateWanted_wanted, ?_⟩
    rw [State.evaluateWanted_cu]
  deferred n h round := by
    rw [State.trigger_inRound h round]
    refine ⟨Within.trans ((within_onCu s _).mono (by decide)).1 (State.evaluateWanted_within _),
      State.evaluateWanted_wanted (s.onCu fun c => { c with settled := true }), ?_⟩
    rw [State.evaluateWanted_cu]
    rfl

/-- Settles O26: each of the four is consumed and is a trigger, by the rules of a trigger for each round state. -/
theorem triggersAreTakenByTheRoundState : Obligations.TriggersAreTakenByTheRoundState := by
  intro c s plain
  have taken : exec c s = .next (s.consume c).trigger ∧ footprint c = contractPieces := by
    simp only [List.mem_cons, List.not_mem_nil, or_false] at plain
    rcases plain with rfl | rfl | rfl | rfl <;> exact ⟨rfl, rfl⟩
  obtain ⟨ran, foot⟩ := taken
  exact ⟨_, ran, foot ▸ within_of_exec ran, State.trigger_triggered _⟩

/-! ### The gate (R37, R38) -/

/-- The gate's opening is a trigger taken at once, the driveline mode derived afresh (R37, R38). -/
theorem State.openGate_opened (s : State) :
    ∃ m, Within [.cu, .signals] s m ∧ m.cu = { s.cu with gate := .opened } ∧ .modeDerivation ∈ m.signals ∧ m.triggered s.openGate := by
  refine ⟨_, ?_, ?_, ?_, State.trigger_triggered _⟩
  · exact (((within_onCu s _).mono (by decide)).trans
      (((within_raise _ _).mono (by decide)).trans ((within_levelsFrom _ _ _).mono (by decide)))).1
  · rw [State.levelsFrom_cu, State.raise_cu, State.onCu_cu]
  · exact State.mem_levelsFrom (by rw [State.raise_signals]; exact List.mem_append_right _ (List.mem_singleton_self _))

theorem essentialsUp_iff (s : State) : s.essentialsUp = true ↔ (s.port .traction).state = .up ∧ (s.port .pack).state = .up := by
  unfold State.essentialsUp
  rw [Bool.and_eq_true, isUp_iff, isUp_iff]

theorem mayOpen_iff (s : State) :
    s.mayOpen = true ↔ s.key = true ∧ ((s.port .traction).state = .up ∧ (s.port .pack).state = .up) ∧ s.view.traction ≠ none ∧
      s.view.pack ≠ none ∧ s.view.storage ≠ none := by
  unfold State.mayOpen
  simp only [Bool.and_eq_true, essentialsUp_iff, Option.isSome_iff_ne_none, and_assoc]

/-- The conditions under which the gate opens (R37, R38). -/
def State.gateOpens (s : State) : Prop :=
  (s.cu.gate = .blocked ∧ s.key = true ∧ ((s.port .traction).state = .up ∧ (s.port .pack).state = .up) ∧
      s.view.traction ≠ none ∧ s.view.pack ≠ none ∧ s.view.storage ≠ none) ∨
    (s.cu.gate = .safe ∧ ((s.port .traction).state = .up ∧ (s.port .pack).state = .up) ∧ s.cu.sinceTraction = true ∧
      s.cu.sincePack = true)

theorem State.gateOpens_blocked {s : State} (gate : s.cu.gate = .blocked) : s.gateOpens ↔ s.mayOpen = true := by
  rw [mayOpen_iff, State.gateOpens, gate]
  exact ⟨fun h => h.elim (fun k => k.2) (fun k => nomatch k.1), fun h => .inl ⟨rfl, h⟩⟩

theorem State.gateOpens_safe {s : State} (gate : s.cu.gate = .safe) :
    s.gateOpens ↔ (s.essentialsUp && s.cu.sinceTraction && s.cu.sincePack) = true := by
  rw [Bool.and_eq_true, Bool.and_eq_true, essentialsUp_iff, and_assoc, State.gateOpens, gate]
  exact ⟨fun h => h.elim (fun k => nomatch k.1) fun k => k.2, fun h => .inr ⟨rfl, h⟩⟩

theorem State.gateOpens_opened {s : State} (gate : s.cu.gate = .opened) : ¬ s.gateOpens := by
  rw [State.gateOpens, gate]
  exact fun h => h.elim (fun k => nomatch k.1) fun k => nomatch k.1

theorem State.testGate_tested (s : State) : s.gateTested s.testGate := by
  suffices cases_ : (s.gateOpens → s.testGate = s.openGate) ∧ (¬ s.gateOpens → s.testGate = s) by
    obtain ⟨opens, stays⟩ := cases_
    exact ⟨fun h => opens h ▸ s.openGate_opened, stays⟩
  unfold State.testGate
  cases gate : s.cu.gate with
  | opened => exact ⟨fun h => absurd h (State.gateOpens_opened gate), fun _ => rfl⟩
  | blocked =>
    rw [State.gateOpens_blocked gate]
    exact ⟨fun h => if_pos h, fun h => if_neg h⟩
  | safe =>
    rw [State.gateOpens_safe gate]
    exact ⟨fun h => if_pos h, fun h => if_neg h⟩

end Sys2Proof.Machine

/-! ## Figures of revisions and reductions, and the short answers of the Contract Unit (R21, R44, R53, R56, R168) -/

namespace Sys2Proof.Machine

/-! ### Effective figures (R21) -/

theorem entryAt_succ {list : Option (Place (List Offer))} {l : Place (List Offer)} (h : list = some l) (i : Nat) :
    entryAt list (i + 1) = l.content[i]? := by rw [h]; rfl

/-- Outside the list there is no entry (log 11). -/
theorem entryAt_outside {list : Option (Place (List Offer))} {i : Nat} (h : ∀ l, list = some l → i = 0 ∨ l.content.length < i) :
    entryAt list i = none := by
  cases i with
  | zero => rfl
  | succ i =>
    cases list with
    | none => rfl
    | some l =>
      have beyond : l.content.length ≤ i := (h l rfl).elim nofun Nat.le_of_lt_succ
      exact List.getElem?_eq_none beyond

theorem State.effAt_of_entry {s : State} {i : Nat} {o : Offer} (h : entryAt s.view.storage i = some o) :
    s.effAt i = o.power * (100 - s.wear.battery.derate) / 100 := by
  unfold State.effAt
  rw [h]
  rfl

theorem State.gensetAt_of_entry {s : State} {i : Nat} {o : Offer} (h : entryAt s.view.gensetList i = some o) :
    s.gensetAt i = o.power := by
  unfold State.gensetAt
  rw [h]

theorem State.effAt_absent {s : State} {i : Nat} (h : entryAt s.view.storage i = none) : s.effAt i = 0 := by
  unfold State.effAt
  rw [h]

theorem State.gensetAt_absent {s : State} {i : Nat} (h : entryAt s.view.gensetList i = none) : s.gensetAt i = 0 := by
  unfold State.gensetAt
  rw [h]

theorem State.acceptance_of_pack {s : State} {k : Place PackReport} (h : s.view.pack = some k) :
    s.acceptance = k.content.aAcc * (100 - s.wear.battery.derate) / 100 := by
  unfold State.acceptance State.packIn
  rw [h]
  rfl

/-! ### Imposed reductions (R56) -/

/-- The genset's part of what is still needed, and what the terms become but for their grant and share. -/
def Terms.cut (t : Terms) (gAvail acceptance cap : Nat) : Terms :=
  let g := min t.commitment (min gAvail (t.grant + t.aux))
  { t with
    charge := 0, gensetIndex := if g = 0 then none else t.gensetIndex, commitment := g, reduced := true
    ceiling := regenCeiling acceptance cap 0 }

theorem Terms.reduce_covered {t : Terms} {sAvail gAvail : Nat} (acceptance cap : Nat) (giveBack : Bool)
    (h : t.grant + t.aux ≤ sAvail + min t.commitment (min gAvail (t.grant + t.aux))) :
    t.reduce sAvail gAvail acceptance cap giveBack =
      .ok { t.cut gAvail acceptance cap with share := t.grant + t.aux - min t.commitment (min gAvail (t.grant + t.aux)) } := by
  unfold Terms.reduce
  exact if_pos h

/-- Below the need, the reduction depends on what is left above the auxiliary allowance. -/
theorem Terms.reduce_short {t : Terms} {sAvail gAvail : Nat} (acceptance cap : Nat) (giveBack : Bool)
    (h : sAvail + min t.commitment (min gAvail (t.grant + t.aux)) < t.grant + t.aux) :
    t.reduce sAvail gAvail acceptance cap giveBack =
      if sAvail + min t.commitment (min gAvail (t.grant + t.aux)) < t.aux then .error .supplyBelowAux
      else if sAvail + min t.commitment (min gAvail (t.grant + t.aux)) - t.aux < t.basisMin then .error .belowMinimum
      else if giveBack = false then .error .noGiveBack
      else .ok { t.cut gAvail acceptance cap with
        grant := sAvail + min t.commitment (min gAvail (t.grant + t.aux)) - t.aux, share := sAvail } := by
  unfold Terms.reduce
  refine (if_neg (Nat.not_le.2 h)).trans ?_
  by_cases below : sAvail + min t.commitment (min gAvail (t.grant + t.aux)) < t.aux
  · exact (if_pos below).trans (if_pos below).symm
  refine (if_neg below).trans (Eq.trans ?_ (if_neg below).symm)
  by_cases low : sAvail + min t.commitment (min gAvail (t.grant + t.aux)) - t.aux < t.basisMin
  · exact (if_pos low).trans (if_pos low).symm
  refine (if_neg low).trans (Eq.trans ?_ (if_neg low).symm)
  by_cases no : giveBack = false
  · exact (if_pos ⟨by omega, no⟩).trans (if_pos no).symm
  · exact (if_neg fun k => no k.2).trans (if_neg no).symm

/-- Settles O32: the revision field by field, the reduction by what is left after the genset's part, and the figures by their entry. -/
theorem revisionAndReductionFigures : Obligations.RevisionAndReductionFigures := by
  refine ⟨fun t acc cap => ?_, fun t sAvail gAvail acc cap giveBack => ?_, fun s => ⟨?_, ?_, ?_, ?_, ?_⟩⟩
  · have lower : min t.charge acc < t.charge ↔ acc < t.charge := by omega
    refine ⟨rfl, rfl, ?_, ?_, rfl⟩
    · intro charged
      simp only [Terms.refit]
      omega
    · simp only [Terms.refit, lower]
  · intro need g left
    have above : ∀ b : Nat, 0 ≤ left → ((left < b) ↔ sAvail + g - t.aux < b) := by
      intro b pos
      simp only [left] at pos ⊢
      omega
    refine ⟨fun covered => ⟨_, Terms.reduce_covered acc cap giveBack covered, rfl, rfl, rfl, rfl, rfl, rfl, ?_, rfl⟩, fun short => ?_⟩
    · simp [Terms.cut, regenCeiling]
    · rw [Terms.reduce_short acc cap giveBack short]
      have enough : 0 ≤ left → ¬ sAvail + g < t.aux := by
        intro pos
        simp only [left] at pos
        omega
      refine ⟨fun neg => if_pos ?_, fun pos low => ?_, fun pos high no => ?_, fun pos high yes => ?_⟩
      · show sAvail + g < t.aux
        simp only [left] at neg
        omega
      · rw [if_neg (enough pos)]
        exact if_pos ((above _ pos).1 low)
      · rw [if_neg (enough pos), if_neg (fun k => absurd ((above _ pos).2 k) (by omega))]
        exact if_pos no
      · rw [if_neg (enough pos), if_neg (fun k => absurd ((above _ pos).2 k) (by omega)), if_neg (by simp [yes])]
        refine ⟨_, rfl, ?_, rfl, rfl, rfl, rfl, rfl, ?_, rfl⟩
        · simp only [left] at pos ⊢
          omega
        · simp [Terms.cut, regenCeiling]
  · exact fun k h => State.acceptance_of_pack h
  · exact fun l i o list entry => State.effAt_of_entry ((entryAt_succ list i).trans entry)
  · exact fun l i o list entry => State.gensetAt_of_entry ((entryAt_succ list i).trans entry)
  · exact fun i h => State.effAt_absent (entryAt_outside h)
  · exact fun i h => State.gensetAt_absent (entryAt_outside h)

/-! ### The active contract sent (R168) -/

theorem State.sendContract_some {s : State} {c : Contract} (h : s.cu.active = some c) (ps : List Port) (f : Nat → Terms → Notice) :
    s.sendContract ps f = s.notify ps (f c.number c.terms) := by
  unfold State.sendContract
  rw [h]

theorem State.sendContract_none {s : State} (h : s.cu.active = none) (ps : List Port) (f : Nat → Terms → Notice) :
    s.sendContract ps f = s := by
  unfold State.sendContract
  rw [h]

/-- Settles O35: by the port and the gate, then by whether a contract is active. -/
theorem latePortIsTold : Obligations.LatePortIsTold := by
  intro p s
  by_cases told : s.cu.gate = .opened ∧ (p = .genset ∨ p = .brake)
  · obtain ⟨gate, port⟩ := told
    have ran : exec (.latePortUpNotice p) s =
        .next ((s.consume (.latePortUpNotice p)).sendContract [p] .contractActive) := by
      refine if_pos ?_
      rw [Bool.and_eq_true]
      refine ⟨isOpen_iff.2 gate, ?_⟩
      rcases port with rfl | rfl <;> rfl
    refine ⟨_, ran, within_of_exec ran, ?_, fun q ne => ?_, fun c _ _ active => ?_, fun other => ?_⟩
    · exact (within_sendContract _ _ _).1 .signals (by decide)
    · unfold State.sendContract
      split
      · rfl
      · exact State.notify_port_other (by simpa using ne)
    · rw [State.sendContract_some (s := s.consume _) active]
      exact State.queuedOn_notify (u := s.consume _) rfl (fun q e => List.mem_singleton.2 e) rfl rfl
    · have idle : s.cu.active = none := by
        rcases other with rfl | rfl | closed | idle
        · exact absurd port (by simp)
        · exact absurd port (by simp)
        · exact absurd gate closed
        · exact idle
      rw [State.sendContract_none (s := s.consume _) idle]
      rfl
  · have ran : exec (.latePortUpNotice p) s = .next (s.consume (.latePortUpNotice p)) := by
      refine if_neg fun k => told ?_
      obtain ⟨o, port⟩ := Bool.and_eq_true _ _ ▸ k
      refine ⟨isOpen_iff.1 o, ?_⟩
      cases p with
      | traction => cases port
      | pack => cases port
      | genset => exact .inl rfl
      | brake => exact .inr rfl
    exact ⟨_, ran, within_of_exec ran, rfl, fun q _ => rfl, fun c port gate _ => absurd ⟨gate, port⟩ told, fun _ => rfl⟩

end Sys2Proof.Machine

/-! ## Acceptances and the activation of a proposal (R44, R45, R48) -/

namespace Sys2Proof.Machine

/-! ### Reply slots that a run or an activation leaves as they were -/

@[simp] theorem State.notify_slot (s : State) (ps : List Port) (n : Notice) (p : Port) : ((s.notify ps n).port p).slot = (s.port p).slot := by
  induction ps generalizing s with
  | nil => rfl
  | cons q ps ih =>
    rw [State.notify_cons, ih, State.submit_port_eq]

theorem State.slot_congr {s t : State} (h : t.ports = s.ports) (p : Port) : (t.port p).slot = (s.port p).slot := by
  rw [State.port_congr h]

theorem State.runOnce_slot (s : State) (count : Nat) (within : Bool) (p : Port) : ((s.runOnce count within).port p).slot = (s.port p).slot := by
  have records := State.slot_congr s.runRecords_ports p
  unfold State.runOnce
  split
  · rw [← records]
    exact State.notify_slot _ _ _ p
  · split <;> exact records
  · split
    · exact records
    · rw [← records, State.slot_congr (State.drop_ports _ _)]
      exact State.notify_slot _ _ _ p

theorem State.actOnFlag_eq (s : State) :
    s.actOnFlag = if s.cu.settled then (s.onCu fun c => { c with settled := false }).runOnce 1 false else s := by
  unfold State.actOnFlag
  rw [State.runClear_eq rfl]

theorem State.actOnFlag_slot (s : State) (p : Port) : (s.actOnFlag.port p).slot = (s.port p).slot := by
  rw [State.actOnFlag_eq]
  split
  · rw [State.runOnce_slot]
    rfl
  · rfl

/-! ### The activation, part by part -/

@[simp] theorem State.peakAtActivation_ports (s : State) (r : Option Contract) (t : Terms) : (s.peakAtActivation r t).ports = s.ports :=
  (within_peakAtActivation s r t).1 .ports (by decide)
@[simp] theorem State.peakAtActivation_view (s : State) (r : Option Contract) (t : Terms) : (s.peakAtActivation r t).view = s.view :=
  (within_peakAtActivation s r t).1 .view (by decide)
@[simp] theorem State.peakAtActivation_signals (s : State) (r : Option Contract) (t : Terms) : (s.peakAtActivation r t).signals = s.signals :=
  (within_peakAtActivation s r t).1 .signals (by decide)

/-- The timer goes on from the replaced contract's when it rests on the same entry of the list still held (R48). -/
def State.peakContinues (s : State) (replaced : Option Contract) (t : Terms) : Prop :=
  s.cu.peak ≠ .stopped ∧ s.cu.peakSerial = s.view.storageSerial ∧ ∃ r, replaced = some r ∧ r.terms.storageIndex = t.storageIndex

theorem State.peakAtActivation_stops (s : State) (r : Option Contract) {t : Terms} (h : t.peak = none) :
    s.peakAtActivation r t = s.onCu fun c => { c with peak := .stopped } := by
  unfold State.peakAtActivation
  rw [h]

/-- The model's test of whether the timer goes on. -/
theorem State.peakContinues_iff (s : State) (r : Option Contract) (t : Terms) :
    (s.cu.peak.isRunning && s.cu.peakSerial == s.view.storageSerial &&
      (match r with | none => false | some r => r.terms.storageIndex == t.storageIndex)) = true ↔ s.peakContinues r t := by
  unfold State.peakContinues
  rw [Bool.and_eq_true, Bool.and_eq_true, Timer.isRunning_iff, beq_iff_eq, and_assoc]
  cases r <;> simp

theorem State.peakAtActivation_continues {s : State} {r : Option Contract} {t : Terms} {d : Nat} (h : t.peak = some d)
    (continues : s.peakContinues r t) : s.peakAtActivation r t = s := by
  unfold State.peakAtActivation
  rw [h]
  exact if_pos ((State.peakContinues_iff s r t).2 continues)

theorem State.peakAtActivation_starts {s : State} {r : Option Contract} {t : Terms} {d : Nat} (h : t.peak = some d)
    (new : ¬ s.peakContinues r t) :
    s.peakAtActivation r t = s.onCu fun c => { c with peak := Timer.seconds d, peakSerial := s.view.storageSerial } := by
  unfold State.peakAtActivation
  rw [h]
  exact if_neg (mt (State.peakContinues_iff s r t).1 new)

/-- Only the timer and what it counts for change. -/
theorem State.peakAtActivation_cu (s : State) (r : Option Contract) (t : Terms) :
    (s.peakAtActivation r t).cu =
      { s.cu with peak := (s.peakAtActivation r t).cu.peak, peakSerial := (s.peakAtActivation r t).cu.peakSerial } := by
  cases h : t.peak with
  | none => rw [State.peakAtActivation_stops s r h]; rfl
  | some d =>
    by_cases c : s.peakContinues r t
    · rw [State.peakAtActivation_continues h c]
    · rw [State.peakAtActivation_starts h c]; rfl

/-- The record, the marks and the reference of an activation, its timer not yet set and nothing yet told. -/
def State.activating (s : State) (p : Proposal) (t : Terms) : State :=
  { s.usedInputs with
    cu := { s.cu with active := some ⟨p.number, t⟩, proposal := none, window := .stopped, round := .idle }
    view := { s.view.clearExclusions with reference := some (t.basisReq, t.basisMin) } }

/-- An activation with nothing yet told. -/
def State.activated (s : State) (p : Proposal) (t : Terms) : State := (s.activating p t).peakAtActivation s.cu.active t

theorem State.activated_cu (s : State) (p : Proposal) (t : Terms) :
    (s.activated p t).cu = { s.cu with
      active := some ⟨p.number, t⟩, proposal := none, window := .stopped, round := .idle
      peak := (s.activated p t).cu.peak, peakSerial := (s.activated p t).cu.peakSerial } :=
  State.peakAtActivation_cu _ _ _

theorem State.activated_active (s : State) (p : Proposal) (t : Terms) : (s.activated p t).cu.active = some ⟨p.number, t⟩ := by
  rw [State.activated_cu]

/-- The changed levels, if there are any, reach the Warning Unit as one event. -/
theorem State.levelsFrom_signals (s : State) (m : Bool) (g : Gate) :
    ∃ levels, (s.levelsFrom m g).signals = s.signals ++ if levels = [] then [] else [.conditionLevelChange levels] :=
  ⟨_, State.handLevels_signals _ _⟩

/-- The signals of an activation, in order. -/
def activationSignals (replaced : Option Contract) (t : Terms) (levels : List OwnerLevel) : List Instr :=
  ((if tellsGenset replaced t then [.commitmentHanded t.commitment t.gensetIndex] else []) ++
    (if tellsBlend replaced t then [.blendImmediateRun] else []) ++ [.modeDerivation]) ++
    (if levels = [] then [] else [.conditionLevelChange levels])

/-- An activation is the change of the record, then what is told of it. -/
theorem State.enact_eq (s : State) (p : Proposal) {t : Terms} (revised : p.terms.refit s.acceptance s.settings.regenCap = t) :
    s.enact p =
      (((if tellsGenset s.cu.active t then ((s.activated p t).notify Port.all (.contractActive p.number t)).handCommitment t
        else (s.activated p t).notify Port.all (.contractActive p.number t)).raiseIf (tellsBlend s.cu.active t)
          .blendImmediateRun).raise .modeDerivation).levelsFrom s.cu.inMismatch s.cu.gate := by
  have record : State.peakAtActivation
      (({ (s.usedInputs.onCu fun c =>
            { c with active := some ⟨p.number, t⟩, proposal := none, window := .stopped, round := .idle }) with
          view := s.usedInputs.view.clearExclusions } : State).setReference (some (t.basisReq, t.basisMin)))
      s.cu.active t = s.activated p t := by
    unfold State.activated State.activating State.setReference State.onCu
    rw [s.usedInputs_view, s.usedInputs_cu]
  have gate : (s.activated p t).cu.gate = s.cu.gate := by rw [State.activated_cu]
  have told := State.sendContract_some (State.activated_active s p t) Port.all .contractActive
  subst revised
  unfold State.enact
  dsimp only
  erw [record, told]
  congr 1
  split <;> simp [gate]

section
variable (s : State) (p : Proposal) {t : Terms} (revised : p.terms.refit s.acceptance s.settings.regenCap = t)
include revised

theorem State.enact_cu : (s.enact p).cu = (s.activated p t).cu := by
  rw [State.enact_eq s p revised]
  split <;> simp

theorem State.enact_ports : (s.enact p).ports = ((s.activated p t).notify Port.all (.contractActive p.number t)).ports := by
  rw [State.enact_eq s p revised]
  split <;> simp

theorem State.enact_view :
    (s.enact p).view = { s.view.clearExclusions with reference := some (t.basisReq, t.basisMin) } := by
  rw [State.enact_eq s p revised]
  split <;> simp [State.activated, State.activating]

theorem State.enact_signals : ∃ levels, (s.enact p).signals = s.signals ++ activationSignals s.cu.active t levels := by
  rw [State.enact_eq s p revised]
  obtain ⟨levels, told⟩ := State.levelsFrom_signals _ s.cu.inMismatch s.cu.gate
  refine ⟨levels, told.trans ?_⟩
  unfold activationSignals
  have before : (s.activated p t).signals = s.signals := by simp [State.activated, State.activating]
  split <;> simp [State.handCommitment, before]

end

/-! ### Parties -/

theorem PartySet.has_add (x : PartySet) (party q : Party) : (x.add party).has q = true ↔ q = party ∨ x.has q = true := by
  cases party <;> cases q <;> simp [PartySet.add, PartySet.has]

/-- A party already there is not added again. -/
theorem PartySet.add_of_has {x : PartySet} {party : Party} (h : x.has party = true) : x.add party = x := by
  obtain ⟨t, k, g⟩ := x
  cases party <;> cases h <;> rfl

theorem PartySet.without_has (x y : PartySet) (q : Party) : (x.without y).has q = true ↔ x.has q = true ∧ y.has q = false := by
  cases q <;> simp [PartySet.without, PartySet.has]

theorem PartySet.eq_empty_iff (x : PartySet) : x = PartySet.empty ↔ ∀ q, x.has q = false := by
  obtain ⟨t, k, g⟩ := x
  refine ⟨fun e q => ?_, fun h => ?_⟩
  · rw [e]
    cases q <;> rfl
  · have ht := h .traction
    have hk := h .pack
    have hg := h .genset
    simp only [PartySet.has] at ht hk hg
    rw [ht, hk, hg]
    rfl

/-! ### ACCEPT (R39, R44) -/

/-- The proposal with one more party's mark. -/
def Proposal.acceptedBy (p : Proposal) (party : Party) : Proposal := { p with accepted := p.accepted.add party }

/-- The mark set and the answer given. -/
def State.marked (s : State) (party : Party) (p : Proposal) : State :=
  (s.onCu fun c => { c with proposal := some (p.acceptedBy party) }).answer party.port (.accept party p.number) 0x20 .done false

theorem exec_accept_closed {s : State} (closed : s.cu.gate ≠ .opened) (party : Party) (n : Nat) :
    exec (.accept party n) s = .next (s.answer party.port (.accept party n) 0x20 (.refused .notOpen) false) :=
  if_pos (by simpa [State.isOpen] using closed)

theorem exec_accept_stale {s : State} (gate : s.cu.gate = .opened) {party : Party} {n : Nat}
    (stale : ∀ p, s.cu.proposal = some p → p.number ≠ n ∨ p.required.has party = false) :
    exec (.accept party n) s = .next (s.answer party.port (.accept party n) 0x20 .stale false) := by
  refine (if_neg (by simp [isOpen_iff.2 gate])).trans ?_
  cases proposal : s.cu.proposal with
  | none => rfl
  | some p => exact if_pos (stale p proposal)

theorem exec_accept_done {s : State} (gate : s.cu.gate = .opened) {party : Party} {p : Proposal} (proposal : s.cu.proposal = some p)
    (required : p.required.has party = true) :
    exec (.accept party p.number) s =
      if p.accepted.has party then .next (s.marked party p)
      else if p.required.without (p.acceptedBy party).accepted = PartySet.empty then
        .next ((s.marked party p).activate (p.acceptedBy party))
      else .next (s.marked party p) := by
  refine (if_neg (by simp [isOpen_iff.2 gate])).trans ?_
  rw [proposal]
  exact if_neg (by simp [required])

theorem State.marked_answered (s : State) (party : Party) (p : Proposal) :
    s.answered (s.marked party p) party.port (.accept party p.number) (.answer 0x20 .done false []) :=
  State.answered_of_ports (u := s.onCu _) rfl rfl

/-- The marks are complete when every other required party's is set. -/
theorem complete_iff (p : Proposal) (party : Party) :
    p.required.without (p.acceptedBy party).accepted = PartySet.empty ↔
      ∀ q, q ≠ party → p.required.has q = true → p.accepted.has q = true := by
  rw [PartySet.eq_empty_iff]
  have member : ∀ q, (p.required.without (p.acceptedBy party).accepted).has q = true ↔
      p.required.has q = true ∧ q ≠ party ∧ p.accepted.has q = false := by
    intro q
    rw [PartySet.without_has, ← Bool.not_eq_true, Proposal.acceptedBy, PartySet.has_add]
    simp
  refine forall_congr' fun q => ?_
  rw [← Bool.not_eq_true, member, ← Bool.not_eq_true (p.accepted.has q)]
  tauto

theorem State.activate_slot (s : State) (p : Proposal) (q : Port) : ((s.activate p).port q).slot = (s.port q).slot := by
  have before : (s.activated p (p.terms.refit s.acceptance s.settings.regenCap)).ports = s.ports := by simp [State.activated, State.activating]
  rw [State.activate, State.actOnFlag_slot, State.slot_congr (State.enact_ports s p rfl), State.notify_slot, State.slot_congr before]

/-- Settles O27: by the gate, the proposal, and the marks already set. -/
theorem acceptIsAnswered : Obligations.AcceptIsAnswered := by
  intro party n s
  by_cases gate : s.cu.gate = .opened
  swap
  · refine ⟨_, exec_accept_closed gate party n, fun _ => ⟨answer_within _ _ _ _ _ _ _, State.answer_answered _ _ _ _ _ _ _⟩,
      fun o => absurd o gate, fun o => absurd o gate⟩
  by_cases stale : ∀ p, s.cu.proposal = some p → p.number ≠ n ∨ p.required.has party = false
  · refine ⟨_, exec_accept_stale gate stale, fun o => absurd gate o,
      fun _ _ => ⟨answer_within _ _ _ _ _ _ _, State.answer_answered _ _ _ _ _ _ _⟩, fun _ p proposal number required => ?_⟩
    rcases stale p proposal with other | other
    · exact absurd number other
    · exact absurd (required.symm.trans other) nofun
  push Not at stale
  obtain ⟨p, proposal, rfl, required⟩ := stale
  replace required : p.required.has party = true := by simpa using required
  have ran := exec_accept_done gate proposal required
  have only : ∀ p', s.cu.proposal = some p' → p' = p := fun p' e => by rw [proposal] at e; exact (Option.some.inj e).symm
  have noStale : ¬ ∀ p', s.cu.proposal = some p' → p'.number ≠ p.number ∨ p'.required.has party = false := fun h =>
    (h p proposal).elim (fun k => k rfl) fun k => absurd (required.symm.trans k) nofun
  have replied := (s.marked_answered party p).repliesOn
  by_cases already : p.accepted.has party = true
  · rw [if_pos already] at ran
    refine ⟨_, ran, fun o => absurd gate o, fun _ h => absurd h noStale, fun _ p' e _ _ => ?_⟩
    obtain rfl := only p' e
    have unchanged : s.onCu (fun c => { c with proposal := some (p'.acceptedBy party) }) = s := by
      unfold State.onCu Proposal.acceptedBy
      rw [PartySet.add_of_has already, ← proposal]
    refine ⟨replied, fun _ => ⟨?_, s.marked_answered party p'⟩, fun k => absurd (already.symm.trans k) nofun⟩
    rw [State.marked, unchanged]
    exact answer_within _ _ _ _ _ _ _
  rw [if_neg already] at ran
  by_cases complete : p.required.without (p.acceptedBy party).accepted = PartySet.empty
  · rw [if_pos complete] at ran
    refine ⟨_, ran, fun o => absurd gate o, fun _ h => absurd h noStale, fun _ p' e _ _ => ?_⟩
    obtain rfl := only p' e
    refine ⟨fun reserved => ?_, fun k => absurd k already, fun _ ⟨q, ne, req, acc⟩ => ?_⟩
    · rw [State.activate_slot]
      exact replied reserved
    · exact absurd (((complete_iff p' party).1 complete q ne req).symm.trans acc) nofun
  · rw [if_neg complete] at ran
    refine ⟨_, ran, fun o => absurd gate o, fun _ h => absurd h noStale, fun _ p' e _ _ => ?_⟩
    obtain rfl := only p' e
    refine ⟨replied, fun k => absurd k already, fun _ _ => ⟨?_, s.marked_answered party p', _, rfl, fun q => PartySet.has_add _ _ _⟩⟩
    exact Within.trans ((within_onCu s _).mono (by decide)).1 ((answer_within _ _ _ _ _ _ _).mono (by decide))

/-! ### The activation (R45, R48) -/

/-- Ports in the same states are told of the same notices. -/
theorem State.queuedOn.of_states {s u t : State} (h : ∀ p, (u.port p).state = (s.port p).state) {who : Port → Prop} {n : Notice}
    (told : u.queuedOn t who n) : s.queuedOn t who n := fun p named state => told p named (by rwa [h p])

theorem State.answered.states {s t : State} {p : Port} {i : Instr} {r : Reply} (h : s.answered t p i r) (q : Port) :
    (t.port q).state = (s.port q).state := by
  obtain ⟨other, self, -⟩ := h
  by_cases e : q = p
  · rw [e, self]
  · rw [other q e]

theorem clearExclusions_excluded {list : Option (Place (List Offer))} {l : Place (List Offer)} (h : clearExclusions list = some l) :
    ∀ o ∈ l.content, o.excluded = false := by
  intro o mem
  obtain ⟨k, -, rfl⟩ := Option.map_eq_some_iff.1 h
  obtain ⟨o', -, rfl⟩ := List.mem_map.1 mem
  rfl

theorem State.activated_stops (s : State) (p : Proposal) {t : Terms} (h : t.peak = none) : (s.activated p t).cu.peak = .stopped := by
  rw [State.activated, State.peakAtActivation_stops _ _ h]
  rfl

theorem State.activated_continues (s : State) (p : Proposal) {t : Terms} {d : Nat} (h : t.peak = some d)
    (continues : s.peakContinues s.cu.active t) : (s.activated p t).cu.peak = s.cu.peak := by
  rw [State.activated, State.peakAtActivation_continues (s := s.activating p t) h continues]
  rfl

theorem State.activated_starts (s : State) (p : Proposal) {t : Terms} {d : Nat} (h : t.peak = some d)
    (new : ¬ s.peakContinues s.cu.active t) : (s.activated p t).cu.peak = .running (1000 * d) := by
  rw [State.activated, State.peakAtActivation_starts (s := s.activating p t) h new]
  rfl

theorem mem_activationSignals_mode (replaced : Option Contract) (t : Terms) (levels : List OwnerLevel) :
    .modeDerivation ∈ activationSignals replaced t levels := by simp [activationSignals]

theorem mem_activationSignals_commitment (replaced : Option Contract) (t : Terms) (levels : List OwnerLevel) :
    .commitmentHanded t.commitment t.gensetIndex ∈ activationSignals replaced t levels ↔
      match replaced with
      | none => t.commitment ≠ 0
      | some r => t.commitment ≠ r.terms.commitment ∨ t.gensetIndex ≠ r.terms.gensetIndex := by
  have iff : .commitmentHanded t.commitment t.gensetIndex ∈ activationSignals replaced t levels ↔ tellsGenset replaced t = true := by
    unfold activationSignals
    cases tellsGenset replaced t <;> cases tellsBlend replaced t <;> cases levels <;> simp
  rw [iff]
  cases replaced <;> simp [tellsGenset]

theorem mem_activationSignals_blend (replaced : Option Contract) (t : Terms) (levels : List OwnerLevel) :
    .blendImmediateRun ∈ activationSignals replaced t levels ↔
      match replaced with
      | none => True
      | some r => t.ceiling + t.aux < r.terms.ceiling + r.terms.aux := by
  have iff : .blendImmediateRun ∈ activationSignals replaced t levels ↔ tellsBlend replaced t = true := by
    unfold activationSignals
    cases tellsGenset replaced t <;> cases tellsBlend replaced t <;> cases levels <;> simp
  rw [iff]
  cases replaced <;> simp [tellsBlend]

/-- An activated proposal with the reselect-when-settled flag cleared. -/
def State.enactClear (s : State) (p : Proposal) : State := (s.enact p).onCu fun c => { c with settled := false }

theorem State.onCu_clear {s : State} (clear : s.cu.settled = false) : (s.onCu fun c => { c with settled := false }) = s := by
  unfold State.onCu
  rw [← clear]

theorem State.activate_clear {s : State} {p : Proposal} (clear : s.cu.settled = false) : s.activate p = s.enactClear p := by
  have settled : (s.enact p).cu.settled = false := by rw [State.enact_cu s p rfl, State.activated_cu, clear]
  rw [State.activate, State.actOnFlag_eq, settled, State.enactClear, State.onCu_clear settled]
  rfl

theorem State.activate_flagged {s : State} {p : Proposal} (set : s.cu.settled = true) :
    s.activate p = (s.enactClear p).runOnce 1 false := by
  have settled : (s.enact p).cu.settled = true := by rw [State.enact_cu s p rfl, State.activated_cu, set]
  rw [State.activate, State.actOnFlag_eq, settled]
  rfl

theorem State.enactClear_cu (s : State) (p : Proposal) :
    (s.enactClear p).cu = { (s.activated p (p.terms.refit s.acceptance s.settings.regenCap)).cu with settled := false } :=
  congrArg (fun c : ContractUnit => { c with settled := false }) (s.enact_cu p rfl)

theorem State.enactClear_view (s : State) (p : Proposal) {t : Terms} (revised : p.terms.refit s.acceptance s.settings.regenCap = t) :
    (s.enactClear p).view = { s.view.clearExclusions with reference := some (t.basisReq, t.basisMin) } := s.enact_view p revised

theorem State.enactClear_tells (s : State) (p : Proposal) {t : Terms} (revised : p.terms.refit s.acceptance s.settings.regenCap = t) :
    s.queuedOn (s.enactClear p) (fun _ => True) (.contractActive p.number t) :=
  State.queuedOn_notify (u := s.activated p t) (by simp [State.activated, State.activating]) (ps := Port.all)
    (fun q _ => mem_allPorts q) rfl (s.enact_ports p revised)

/-- Settles O28: the activation part by part, then the run its flag calls for. -/
theorem lastAcceptanceActivates : Obligations.LastAcceptanceActivates := by
  intro party p s gate proposal required fresh others
  have ran := exec_accept_done gate proposal required
  rw [if_neg (by simp [fresh]), if_pos ((complete_iff p party).2 others)] at ran
  have states := (s.marked_answered party p).states
  have cu := (s.marked party p).enactClear_cu (p.acceptedBy party)
  have view := (s.marked party p).enactClear_view (p.acceptedBy party) rfl
  obtain ⟨levels, signals⟩ := (s.marked party p).enact_signals (p.acceptedBy party) rfl
  refine ⟨_, (s.marked party p).enactClear (p.acceptedBy party), ran, within_of_exec ran, ⟨?_, rfl, ?_, ?_, ?_, ?_, ?_, ?_, ?_⟩, ?_, ?_⟩
  · rw [cu, State.activated_cu]
    rfl
  · intro none_
    rw [cu]
    exact State.activated_stops _ _ none_
  · intro d some_
    rw [cu]
    exact ⟨fun h => State.activated_continues _ _ some_ h, fun h => State.activated_starts _ _ some_ h⟩
  · rw [view]
    rfl
  · rw [view]
    rfl
  · rw [view]
    rintro l (list | list) <;> exact clearExclusions_excluded list
  · exact ((s.marked party p).enactClear_tells _ rfl).of_states states
  · exact ⟨_, signals, mem_activationSignals_mode _ _ _, mem_activationSignals_commitment _ _ _, mem_activationSignals_blend _ _ _⟩
  · exact fun clear => State.activate_clear clear
  · intro set
    rw [State.activate_flagged (s := s.marked party p) set]
    exact State.runOnce_ran _ 1 false

end Sys2Proof.Machine

/-! ## Withdrawals, revisions, imposed reductions and the peak expiry set afresh (R48, R53 to R56) -/

namespace Sys2Proof.Machine

/-! ### Withdrawals (R54) -/

theorem State.withdraw_none {s : State} (h : s.cu.proposal = none) : s.withdraw = s := by
  unfold State.withdraw
  rw [h]

theorem State.withdraw_some {s : State} {p : Proposal} (h : s.cu.proposal = some p) :
    s.withdraw = (s.onCu fun c => { c with proposal := none, window := .stopped, round := .idle }).notify p.required.ports
      (.contractWithdrawn p.number) := by
  unfold State.withdraw
  rw [h]

theorem State.withdraw_withdrawn (s : State) : s.withdrawn s.withdraw := by
  unfold State.withdrawn
  cases h : s.cu.proposal with
  | none => exact State.withdraw_none h
  | some p =>
    rw [State.withdraw_some h]
    refine ⟨Within.trans ((within_onCu s _).mono (by decide)).1 ((within_notify _ _ _).mono (by decide)).1, ?_, ?_⟩
    · rw [State.notify_cu, State.onCu_cu]
    · exact State.queuedOn_notify (u := s.onCu _) rfl (fun q told => PartySet.mem_ports told) rfl rfl

/-- A withdrawal reaches the contract's record and the ports alone. -/
theorem State.withdraw_within (s : State) : Within [.cu, .ports] s s.withdraw := by
  cases h : s.cu.proposal with
  | none =>
    rw [State.withdraw_none h]
    exact Within.refl _ _
  | some p =>
    have w := s.withdraw_withdrawn
    unfold State.withdrawn at w
    rw [h] at w
    obtain ⟨within, -, -⟩ := w
    exact within

theorem State.withdraw_active (s : State) : s.withdraw.cu.active = s.cu.active := by
  cases h : s.cu.proposal with
  | none => rw [State.withdraw_none h]
  | some p => rw [State.withdraw_some h, State.notify_cu, State.onCu_cu]

/-- The proposal withdrawn if an event's condition holds of it (R54). -/
def State.withdrawnIf (s : State) (condition : Proposal → Bool) : State :=
  if (match s.cu.proposal with | some p => condition p | none => false) then s.withdraw else s

theorem State.withdrawnIf_withdrawn {s : State} {condition : Proposal → Bool} {p : Proposal} (h : s.cu.proposal = some p)
    (holds : condition p = true) : s.withdrawn (s.withdrawnIf condition) := by
  unfold State.withdrawnIf
  rw [h]
  exact (if_pos (α := State) holds) ▸ s.withdraw_withdrawn

theorem State.withdrawnIf_stays {s : State} {condition : Proposal → Bool} (h : ∀ p, s.cu.proposal = some p → condition p = false) :
    s.withdrawnIf condition = s := by
  unfold State.withdrawnIf
  cases proposal : s.cu.proposal with
  | none => rfl
  | some p => exact if_neg (Bool.not_eq_true _ ▸ h p proposal)

/-! ### The contract's terms replaced and sent (R53, R56) -/

/-- The record, the reference and the notice of replaced terms. -/
def State.replaceTerms (s : State) (c : Contract) (u : Terms) (ps : List Port) : State :=
  ((s.usedInputs.setTerms c u).setReference (some (u.basisReq, u.basisMin))).sendContract ps .contractRevised

theorem State.replaceTerms_eq (s : State) (c : Contract) (u : Terms) (ps : List Port) :
    s.replaceTerms c u ps =
      ((s.usedInputs.setTerms c u).setReference (some (u.basisReq, u.basisMin))).notify ps (.contractRevised c.number u) :=
  State.sendContract_some (s := (s.usedInputs.setTerms c u).setReference _) rfl ps .contractRevised

theorem State.replaceTerms_cu (s : State) (c : Contract) (u : Terms) (ps : List Port) :
    (s.replaceTerms c u ps).cu = { s.cu with active := some ⟨c.number, u⟩ } := by
  rw [State.replaceTerms, State.sendContract_cu, State.setReference_cu, State.setTerms_cu, State.usedInputs_cu]

theorem State.replaceTerms_view (s : State) (c : Contract) (u : Terms) (ps : List Port) :
    (s.replaceTerms c u ps).view = { s.view with reference := some (u.basisReq, u.basisMin) } := by
  rw [State.replaceTerms_eq, State.notify_view, State.setReference_view, State.setTerms_view, State.usedInputs_view]

theorem State.replaceTerms_signals (s : State) (c : Contract) (u : Terms) (ps : List Port) :
    (s.replaceTerms c u ps).signals = s.signals := by
  rw [State.replaceTerms_eq, State.notify_signals]
  exact s.usedInputs_signals

theorem State.replaceTerms_tells (s : State) (c : Contract) (u : Terms) {ps : List Port} {who : Port → Prop}
    (told : ∀ p, who p → p ∈ ps) : s.queuedOn (s.replaceTerms c u ps) who (.contractRevised c.number u) := by
  rw [State.replaceTerms_eq]
  exact State.queuedOn_notify (u := (s.usedInputs.setTerms c u).setReference _) s.usedInputs_ports told rfl rfl

theorem State.replaceTerms_port_other (s : State) (c : Contract) (u : Terms) {ps : List Port} {p : Port} (h : p ∉ ps) :
    (s.replaceTerms c u ps).port p = s.port p := by
  rw [State.replaceTerms_eq, State.notify_port_other h]
  exact State.port_congr (s := s) (t := (s.usedInputs.setTerms c u).setReference _) s.usedInputs_ports p

/-- What the other units are told of replaced terms, in order. -/
def revisionSignals (hands lowers : Bool) (u : Terms) : List Instr :=
  (if hands then [.commitmentHanded u.commitment u.gensetIndex] else []) ++ if lowers then [.blendImmediateRun] else []

theorem mem_revisionSignals_commitment (hands lowers : Bool) (u : Terms) :
    .commitmentHanded u.commitment u.gensetIndex ∈ revisionSignals hands lowers u ↔ hands = true := by
  cases hands <;> cases lowers <;> simp [revisionSignals]

theorem mem_revisionSignals_blend (hands lowers : Bool) (u : Terms) :
    .blendImmediateRun ∈ revisionSignals hands lowers u ↔ lowers = true := by
  cases hands <;> cases lowers <;> simp [revisionSignals]

/-- Replaced terms with what the other units are told of them. -/
def State.replaced (s : State) (c : Contract) (u : Terms) (ps : List Port) (hands : Bool) : State :=
  (if hands then (s.replaceTerms c u ps).handCommitment u else s.replaceTerms c u ps).raiseIf
    (decide (u.ceiling < c.terms.ceiling)) .blendImmediateRun

section
variable (s : State) (c : Contract) (u : Terms) (ps : List Port) (hands : Bool)

theorem State.replaced_cu : (s.replaced c u ps hands).cu = { s.cu with active := some ⟨c.number, u⟩ } := by
  rw [State.replaced, State.raiseIf_cu, ← State.replaceTerms_cu s c u ps]
  split <;> rfl

theorem State.replaced_view : (s.replaced c u ps hands).view = { s.view with reference := some (u.basisReq, u.basisMin) } := by
  rw [State.replaced, State.raiseIf_view, ← State.replaceTerms_view s c u ps]
  split <;> rfl

theorem State.replaced_ports : (s.replaced c u ps hands).ports = (s.replaceTerms c u ps).ports := by
  rw [State.replaced, State.raiseIf_ports]
  split <;> rfl

theorem State.replaced_signals :
    (s.replaced c u ps hands).signals = s.signals ++ revisionSignals hands (decide (u.ceiling < c.terms.ceiling)) u := by
  have before := s.replaceTerms_signals c u ps
  rw [State.replaced, State.raiseIf_signals]
  unfold revisionSignals
  cases hands <;> simp [State.handCommitment, before]

theorem State.replaced_tells {who : Port → Prop} (told : ∀ p, who p → p ∈ ps) :
    s.queuedOn (s.replaced c u ps hands) who (.contractRevised c.number u) := fun p named state => by
  rw [State.port_congr (s.replaced_ports c u ps hands)]
  exact s.replaceTerms_tells c u told p named state

end

/-! ### Imposed reductions (R55, R56) -/

/-- The Genset Sequencer is handed the commitment of a reduction exactly when it changes (R56). -/
def handsReduction (c : Contract) (u : Terms) : Bool :=
  decide (¬ (u.commitment = c.terms.commitment ∧ u.gensetIndex = c.terms.gensetIndex))

theorem State.reduceTo_error {s : State} {c : Contract} {t : Terms} {a g : Nat} {reason : DropReason}
    (h : t.reduce a g s.acceptance s.settings.regenCap s.tractionIn.giveBack = .error reason) :
    s.reduceTo c t a g = s.usedInputs.drop reason := by
  unfold State.reduceTo
  rw [h]

theorem State.reduceTo_ok {s : State} {c : Contract} {t u : Terms} {a g : Nat}
    (h : t.reduce a g s.acceptance s.settings.regenCap s.tractionIn.giveBack = .ok u) :
    s.reduceTo c t a g = s.replaced c u Port.all (handsReduction c u) := by
  unfold State.reduceTo
  rw [h]
  dsimp only
  unfold State.replaced handsReduction
  by_cases same : u.commitment = c.terms.commitment ∧ u.gensetIndex = c.terms.gensetIndex
  · rw [if_pos same, if_neg (by simp [same])]
    rfl
  · rw [if_neg same, if_pos (decide_eq_true same)]
    rfl

theorem State.reduceTo_reduction (s : State) (c : Contract) (t : Terms) (a g : Nat) : s.reduction (s.reduceTo c t a g) c t a g := by
  unfold State.reduction
  cases h : t.reduce a g s.acceptance s.settings.regenCap s.tractionIn.giveBack with
  | error reason =>
    rw [State.reduceTo_error h]
    exact State.drop_droppedFor (by rw [State.usedInputs_cu]) (by rw [State.usedInputs_cu]) (by rw [State.usedInputs_cu])
      s.usedInputs_ports reason
  | ok u =>
    rw [State.reduceTo_ok h]
    refine ⟨s.replaced_cu _ _ _ _, s.replaced_view _ _ _ _, s.replaced_tells _ _ _ _ fun p _ => mem_allPorts p, _,
      s.replaced_signals _ _ _ _, ?_, ?_⟩
    · rw [mem_revisionSignals_commitment, handsReduction, decide_eq_true_iff, not_and_or]
    · rw [mem_revisionSignals_blend, decide_eq_true_iff]

theorem State.reduceIf_reducedWhen {s : State} {condition : Terms → Bool} {called : Terms → Prop}
    (iff : ∀ u, condition u = true ↔ called u) (a g : Terms → Nat) : s.reducedWhen (s.reduceIf condition a g) called a g := by
  unfold State.reducedWhen State.reduceIf
  cases active : s.cu.active with
  | none => exact ⟨fun c e => (nomatch e), fun _ => rfl⟩
  | some c =>
    refine ⟨fun c' e holds => ?_, fun none_ => if_neg fun k => none_ c rfl ((iff _).1 k)⟩
    cases e
    dsimp only
    rw [if_pos ((iff _).2 holds)]
    exact s.reduceTo_reduction c _ _ _

/-! ### Revisions (R53) -/

theorem State.revise_none {s : State} (h : s.cu.active = none) : s.revise = s := by
  unfold State.revise
  rw [h]

theorem State.revise_same {s : State} {c : Contract} (h : s.cu.active = some c)
    (ceiling : (c.terms.refit s.acceptance s.settings.regenCap).ceiling = c.terms.ceiling)
    (charge : (c.terms.refit s.acceptance s.settings.regenCap).charge = c.terms.charge) : s.revise = s.usedInputs := by
  unfold State.revise
  rw [h]
  exact if_pos ⟨ceiling, charge⟩

/-- The ports a revision is sent to (R53). -/
def revisionPorts (c : Contract) (u : Terms) : List Port := if u.charge = c.terms.charge then [.traction, .brake] else Port.all

theorem State.revise_changed {s : State} {c : Contract} {u : Terms} (h : s.cu.active = some c)
    (revised : c.terms.refit s.acceptance s.settings.regenCap = u)
    (changed : ¬ (u.ceiling = c.terms.ceiling ∧ u.charge = c.terms.charge)) :
    s.revise = s.replaced c u (revisionPorts c u) (decide (u.charge ≠ c.terms.charge)) := by
  subst revised
  unfold State.revise
  rw [h]
  refine (if_neg changed).trans ?_
  unfold State.replaced revisionPorts
  by_cases same : (c.terms.refit s.acceptance s.settings.regenCap).charge = c.terms.charge
  · dsimp only
    rw [if_pos same, if_pos same, if_neg (by simp [same])]
    rfl
  · dsimp only
    rw [if_neg same, if_neg same, if_pos (by simpa using same)]
    rfl

theorem State.revise_revised (s : State) : s.revisedFor s.revise := by
  refine ⟨State.revise_none, fun c active => ?_⟩
  intro u
  refine ⟨fun ceiling charge => ?_, fun changed => ?_⟩
  · rw [State.revise_same active ceiling charge]
    exact (within_usedInputs s).1
  · rw [State.revise_changed active rfl (by rwa [not_and_or])]
    refine ⟨s.replaced_cu _ _ _ _, s.replaced_view _ _ _ _, s.replaced_tells _ _ _ _ fun p named => ?_, fun same => ?_, _,
      s.replaced_signals _ _ _ _, ?_, ?_⟩
    · unfold revisionPorts
      split
      · next same =>
        rcases named with rfl | rfl | other
        · decide
        · decide
        · exact absurd same other
      · exact mem_allPorts p
    · have ports : revisionPorts c u = [.traction, .brake] := if_pos same
      rw [State.port_congr (s.replaced_ports _ _ _ _), State.port_congr (s.replaced_ports _ _ _ _)]
      exact ⟨s.replaceTerms_port_other c _ (ports ▸ by decide), s.replaceTerms_port_other c _ (ports ▸ by decide)⟩
    · rw [mem_revisionSignals_commitment, decide_eq_true_iff]
    · rw [mem_revisionSignals_blend, decide_eq_true_iff]

/-! ### The peak expiry set afresh (R48) -/

theorem State.refreshPeak_none {s : State} (h : s.cu.active = none) : s.refreshPeak = s := by
  unfold State.refreshPeak
  rw [h]

/-- The timer for the entry's duration in the list now held. -/
def State.retimed (s : State) (duration : Option Nat) : State :=
  s.onCu fun u =>
    match duration with
    | some d => { u with peak := Timer.seconds d, peakSerial := s.view.storageSerial }
    | none => { u with peak := .stopped }

theorem State.refreshPeak_some {s : State} {c : Contract} {d : Option Nat} (h : s.cu.active = some c)
    (entry : (entryAt s.view.storage c.terms.storageIndex).bind (·.duration) = d) :
    s.refreshPeak = if d = c.terms.peak then s.retimed d
      else ((s.retimed d).setTerms c { c.terms with peak := d }).notify Port.all (.contractRevised c.number { c.terms with peak := d }) := by
  unfold State.refreshPeak
  rw [h]
  dsimp only
  rw [entry]
  have sent := fun timed : State => State.sendContract_some (s := timed.setTerms c { c.terms with peak := d }) rfl Port.all .contractRevised
  cases d <;> exact if_congr Iff.rfl rfl (sent _)

theorem State.retimed_cu (s : State) (d : Option Nat) :
    (s.retimed d).cu = { s.cu with peak := (s.retimed d).cu.peak, peakSerial := (s.retimed d).cu.peakSerial } ∧
      (s.retimed d).cu.peak = (match d with | some k => .running (1000 * k) | none => .stopped) := by
  cases d with
  | none => exact ⟨rfl, rfl⟩
  | some k => exact ⟨rfl, rfl⟩

theorem State.refreshPeak_refreshed (s : State) : s.peakRefreshed s.refreshPeak := by
  refine ⟨State.refreshPeak_none, fun c active => ?_⟩
  intro d
  obtain ⟨kept, timer⟩ := s.retimed_cu d
  have ran := State.refreshPeak_some active (d := d) rfl
  by_cases same : d = c.terms.peak
  · rw [if_pos same] at ran
    rw [ran]
    refine ⟨?_, timer, ?_, fun _ => rfl, fun other => absurd same other⟩
    · rw [kept, same]
      exact active
    · rw [kept]
  · rw [if_neg same] at ran
    rw [ran]
    refine ⟨?_, ?_, ?_, fun k => absurd k same, fun _ => ?_⟩
    · rw [State.notify_cu]
      rfl
    · rw [State.notify_cu]
      exact timer
    · rw [State.notify_cu, State.setTerms_cu, kept]
    · exact State.queuedOn_notify (u := (s.retimed d).setTerms c _) rfl (fun p _ => mem_allPorts p) rfl rfl

/-! ### Lists taken (R48, R54, R55) -/

theorem State.takeList_genset {s w : State} (h : s.withdrawnIf (fun p => p.required.genset) = w) :
    s.takeList .genset =
      w.reduceIf (fun t => t.gensetIndex.isSome &&
          (decide (w.gensetAt (t.gensetIndex.getD 0) < t.commitment) || (entryAt w.view.gensetList (t.gensetIndex.getD 0)).isNone))
        (fun t => w.effAt t.storageIndex) (fun t => w.gensetAt (t.gensetIndex.getD 0)) := by
  subst h
  rfl

theorem State.takeList_taken (s : State) (sup : Supplier) : s.listTaken (s.takeList sup) sup := by
  cases sup with
  | pack =>
    refine ⟨s.withdraw, _, s.withdraw_withdrawn, State.reduceIf_reducedWhen (fun u => ?_) _ _, State.refreshPeak_refreshed _⟩
    rw [Bool.or_eq_true, decide_eq_true_iff, Option.isNone_iff_eq_none]
  | genset =>
    rw [State.takeList_genset rfl]
    refine ⟨_, fun ⟨p, proposal, named⟩ => State.withdrawnIf_withdrawn proposal named, State.withdrawnIf_stays,
      State.reduceIf_reducedWhen (fun u => ?_) _ _⟩
    rw [Bool.and_eq_true, Bool.or_eq_true, decide_eq_true_iff, Option.isNone_iff_eq_none, Option.isSome_iff_ne_none]

end Sys2Proof.Machine

/-! ## Declines, the acceptance window and the round rest (R46, R47, R49, R59) -/

namespace Sys2Proof.Machine

/-! ### Exclusion marks (R8) -/

/-- A list with the exclusion mark on the entry at an index, if there is an index. -/
def excludeIn (list : Option (Place (List Offer))) (index : Option Nat) : Option (Place (List Offer)) :=
  match index with
  | none => list
  | some i => onEntry list i fun o => { o with excluded := true }

theorem excludedAt_excludeIn (list : Option (Place (List Offer))) (index : Option Nat) :
    excludedAt list (excludeIn list index) index := by
  cases list with
  | none => match index with
    | none => rfl
    | some 0 => rfl
    | some (j + 1) => rfl
  | some l => match index with
    | none => exact ⟨l, rfl, rfl, rfl, rfl, fun i o h => h⟩
    | some 0 => exact ⟨l, rfl, rfl, rfl, rfl, fun i o h => h.trans (congrArg some (if_neg (by simp)).symm)⟩
    | some (j + 1) =>
      refine ⟨_, rfl, rfl, rfl, List.length_modify _ _ _, fun i o h => ?_⟩
      dsimp only
      rw [List.getElem?_modify, h]
      simp

theorem View.excludeStorage_eq (v : View) (index serial : Nat) :
    v.excludeStorage index serial =
      { v with storage := excludeIn v.storage (if serial = v.storageSerial then some index else none) } := by
  unfold View.excludeStorage
  split <;> rfl

theorem View.excludeGenset_eq (v : View) (index : Option Nat) (serial : Nat) :
    v.excludeGenset index serial =
      { v with gensetList := excludeIn v.gensetList (if serial = v.gensetSerial then index else none) } := by
  unfold View.excludeGenset
  cases index with
  | none => rw [ite_self]; rfl
  | some i =>
    dsimp only
    split <;> rfl

/-! ### A proposal discarded (R46, R49, R59) -/

/-- The lists with the marks of a discarded proposal. -/
def View.declined (v : View) (p : Proposal) (by_ : PartySet) : View :=
  { v with
    storage := excludeIn v.storage (if by_.pack = true ∧ p.storageSerial = v.storageSerial then some p.terms.storageIndex else none)
    gensetList := excludeIn v.gensetList (if by_.genset = true ∧ p.gensetSerial = v.gensetSerial then p.terms.gensetIndex else none) }

theorem View.declined_eq (v : View) (p : Proposal) (by_ : PartySet) :
    (let w := if by_.pack then v.excludeStorage p.terms.storageIndex p.storageSerial else v
      if by_.genset then w.excludeGenset p.terms.gensetIndex p.gensetSerial else w) = v.declined p by_ := by
  unfold View.declined
  cases by_.pack <;> cases by_.genset <;> simp [View.excludeStorage_eq, View.excludeGenset_eq, excludeIn]

theorem State.discard_eq (s : State) (p : Proposal) (by_ : PartySet) (reason : DeclineReason) :
    s.discard p by_ reason =
      { ((s.onCu fun c => { c with proposal := none, window := .stopped, lastDecline := some ⟨by_, reason, p.number⟩ }).notify
          p.required.ports (.contractWithdrawn p.number)) with view := s.view.declined p by_ } := by
  rw [← View.declined_eq]
  unfold State.discard
  dsimp only
  rw [State.notify_view]
  rfl

theorem State.discard_discarded (s : State) (p : Proposal) (by_ : PartySet) (reason : DeclineReason) :
    s.discarded (s.discard p by_ reason) p by_ reason := by
  rw [State.discard_eq]
  refine ⟨?_, ?_, rfl, excludedAt_excludeIn _ _, excludedAt_excludeIn _ _, ?_⟩
  · exact State.notify_cu _ _ _
  · exact State.queuedOn_notify (u := s.onCu _) rfl (fun q told => PartySet.mem_ports told) rfl rfl
  · exact State.notify_signals _ _ _

/-! ### What follows it (R46, R47) -/

theorem State.continueRound_ends {s : State} {traction : Bool} (h : traction = true ∨ ∀ k, s.cu.round = .inRound k → 3 ≤ k) :
    s.continueRound traction = s.endRound := by
  unfold State.continueRound
  rcases h with rfl | last
  · rfl
  · split
    · rfl
    · split
      · next n round => exact if_pos (last n round)
      · rfl
      · rfl

theorem State.continueRound_goesOn {s : State} {k : Nat} (round : s.cu.round = .inRound k) (few : k < 3) :
    s.continueRound false = s.runInRound k := by
  unfold State.continueRound
  rw [round]
  exact if_neg (Nat.not_le.2 few)

theorem State.continueRound_continued (s : State) (traction : Bool) : s.continued (s.continueRound traction) traction where
  ends last calm := by
    rw [State.continueRound_ends last, State.endRound_eq, if_neg]
    · rfl
    · exact fun ⟨set, some_⟩ => calm.elim (fun c => absurd (set.symm.trans c) nofun) some_
  flagged last set some_ := by
    rw [State.continueRound_ends last, State.endRound_eq, if_pos ⟨set, some_⟩, State.closeRound_runClear]
    have idle : s.closeRound =
        { s with cu := { s.cu with proposal := none, window := .stopped, round := .idle, settled := false } } := by
      unfold State.closeRound State.onCu
      simp only [if_neg some_]
    rw [idle]
    exact State.runOnce_ran _ 1 false
  goesOn plain k round few := by
    rw [plain, State.continueRound_goesOn round few]
    exact s.runInRound_ranWithFlag k

/-! ### DECLINE (R39, R46) -/

theorem exec_decline_closed {s : State} (closed : s.cu.gate ≠ .opened) (party : Party) (n reason : Nat) :
    exec (.decline party n reason) s =
      .next (s.answer party.port (.decline party n reason) 0x21 (.refused .notOpen) (decide (3 < reason))) :=
  if_pos (by simpa [State.isOpen] using closed)

theorem exec_decline_stale {s : State} (gate : s.cu.gate = .opened) {party : Party} {n : Nat} (reason : Nat)
    (stale : ∀ p, s.cu.proposal = some p → p.number ≠ n ∨ p.required.has party = false) :
    exec (.decline party n reason) s = .next (s.answer party.port (.decline party n reason) 0x21 .stale (decide (3 < reason))) := by
  refine (if_neg (by simp [isOpen_iff.2 gate])).trans ?_
  cases proposal : s.cu.proposal with
  | none => rfl
  | some p => exact if_pos (stale p proposal)

theorem exec_decline_done {s : State} (gate : s.cu.gate = .opened) {party : Party} (reason : Nat) {p : Proposal}
    (proposal : s.cu.proposal = some p) (required : p.required.has party = true) :
    exec (.decline party p.number reason) s =
      .next (((s.answer party.port (.decline party p.number reason) 0x21 .done (decide (3 < reason))).discard p (PartySet.only party)
        (declineReason reason)).continueRound (party == .traction)) := by
  refine (if_neg (by simp [isOpen_iff.2 gate])).trans ?_
  rw [proposal]
  exact if_neg (by simp [required])

theorem declineReason_eq (n : Nat) :
    declineReason n = if n = 0 then .overLimit else if n = 1 then .notReady else if n = 2 then .thermal else .other := by
  match n with
  | 0 => rfl
  | 1 => rfl
  | 2 => rfl
  | n + 3 => rfl

theorem PartySet.only_eq (party : Party) : PartySet.only party = ⟨party == .traction, party == .pack, party == .genset⟩ := by
  cases party <;> rfl

/-- Settles O29: by the gate and the proposal; then the discard and what follows it. -/
theorem declineDiscardsTheProposal : Obligations.DeclineDiscardsTheProposal := by
  intro party n reason s
  by_cases gate : s.cu.gate = .opened
  swap
  · have ran := exec_decline_closed gate party n reason
    exact ⟨_, ran, within_of_exec ran, fun _ => ⟨answer_within _ _ _ _ _ _ _, State.answer_answered _ _ _ _ _ _ _⟩,
      fun o => absurd o gate, fun o => absurd o gate⟩
  by_cases stale : ∀ p, s.cu.proposal = some p → p.number ≠ n ∨ p.required.has party = false
  · have ran := exec_decline_stale gate reason stale
    refine ⟨_, ran, within_of_exec ran, fun o => absurd gate o,
      fun _ _ => ⟨answer_within _ _ _ _ _ _ _, State.answer_answered _ _ _ _ _ _ _⟩, fun _ p proposal number required => ?_⟩
    rcases stale p proposal with other | other
    · exact absurd number other
    · exact absurd (required.symm.trans other) nofun
  push Not at stale
  obtain ⟨p, proposal, rfl, required⟩ := stale
  replace required : p.required.has party = true := by simpa using required
  have ran := exec_decline_done gate reason proposal required
  refine ⟨_, ran, within_of_exec ran, fun o => absurd gate o, fun _ h => ?_, fun _ p' e _ _ => ?_⟩
  · exact (h p proposal).elim (fun k => absurd rfl k) fun k => absurd (required.symm.trans k) nofun
  · rw [proposal] at e
    cases e
    refine ⟨_, _, answer_within _ _ _ _ _ _ _, State.answer_answered _ _ _ _ _ _ _, ?_, State.continueRound_continued _ _⟩
    rw [← declineReason_eq, ← PartySet.only_eq]
    exact State.discard_discarded _ _ _ _

/-! ### The two timers of a round (R47, R49) -/

theorem exec_window_stopped {s : State} (h : s.cu.window = .stopped) : exec .acceptanceWindowExpiry s = .next s :=
  if_neg (not_isRunning_of_stopped h)

theorem exec_window_running {s : State} (h : s.cu.window ≠ .stopped) :
    exec .acceptanceWindowExpiry s =
      match s.cu.proposal with
      | none => .next (s.onCu fun c => { c with window := .stopped })
      | some p =>
        .next ((s.discard p (p.required.without p.accepted) .timeout).continueRound (p.required.without p.accepted).traction) :=
  (if_pos (Timer.isRunning_iff.2 h)).trans (by cases s.cu.proposal <;> rfl)

/-- Settles O30: each expiry by whether its timer runs. -/
theorem windowAndRestExpire : Obligations.WindowAndRestExpire := by
  refine ⟨fun s => ?_, fun s => ?_⟩
  · by_cases stopped : s.cu.window = .stopped
    · have ran := exec_window_stopped stopped
      exact ⟨s, ran, within_of_exec ran, fun _ => rfl, fun k => absurd stopped k⟩
    · have ran := exec_window_running stopped
      cases proposal : s.cu.proposal with
      | none =>
        rw [proposal] at ran
        exact ⟨_, ran, within_of_exec ran, fun k => absurd k stopped, fun _ p e => nomatch e⟩
      | some p =>
        rw [proposal] at ran
        refine ⟨_, ran, within_of_exec ran, fun k => absurd k stopped, fun _ p' e => ?_⟩
        cases e
        exact ⟨_, p.required.without p.accepted, fun q => PartySet.without_has _ _ q, State.discard_discarded _ _ _ _,
          State.continueRound_continued _ _⟩
  · by_cases stopped : s.cu.rest = .stopped
    · have ran : exec .roundRestExpiry s = .next s := if_neg (not_isRunning_of_stopped stopped)
      exact ⟨s, ran, within_of_exec ran, fun _ => rfl, fun k => absurd stopped k⟩
    · have ran : exec .roundRestExpiry s = .next (s.onCu fun c => { c with rest := .stopped, round := .idle }).trigger :=
        if_pos (Timer.isRunning_iff.2 stopped)
      exact ⟨_, ran, within_of_exec ran, fun k => absurd k stopped, fun _ => State.trigger_triggered _⟩

end Sys2Proof.Machine

/-! ## Yields, supply changes, port states and arrivals at the Contract Unit (R24, R37, R38, R51 to R59) -/

namespace Sys2Proof.Machine

/-! ### YIELD (R57) -/

theorem clampNat_power (kw : Nat) : clampNat 0 1023 kw = min kw 1023 := by
  rw [clampNat_zero, Nat.min_comm]

theorem exec_yield_notSource {p : Port} (h : p = .traction ∨ p = .brake) (kw : Nat) (s : State) :
    exec (.yieldPower p kw) s = .next (s.answer p (.yieldPower p kw) 0x22 (.refused .notSource) false) := by
  rcases h with rfl | rfl <;> rfl

theorem exec_yield_closed {p : Port} {sup : Supplier} (source : supplierOf p = some sup) (kw : Nat) {s : State}
    (closed : s.cu.gate ≠ .opened) :
    exec (.yieldPower p kw) s = .next (s.answer p (.yieldPower p kw) 0x22 (.refused .notOpen) false) := by
  show execYieldPower p kw s = _
  unfold execYieldPower
  rw [source]
  exact if_neg (mt isOpen_iff.1 closed)

theorem exec_yield_open {p : Port} {sup : Supplier} (source : supplierOf p = some sup) (kw : Nat) {s : State}
    (gate : s.cu.gate = .opened) :
    exec (.yieldPower p kw) s =
      .next ((s.answer p (.yieldPower p kw) 0x22 .done (decide (1023 < kw))).takeYield sup (min kw 1023)) := by
  have clamped : decide (clampNat 0 1023 kw ≠ kw) = decide (1023 < kw) := by
    rw [clampNat_power, decide_eq_decide]
    omega
  show execYieldPower p kw s = _
  unfold execYieldPower
  rw [source]
  dsimp only
  rw [clamped, clampNat_power]
  exact if_pos (isOpen_iff.2 gate)

/-- What a yield takes from the contract, by its source (R55, R57). -/
def State.reduceYielded (w : State) (sup : Supplier) (kw : Nat) : State :=
  match sup with
  | .pack => w.reduceIf (fun _ => true) (fun t => w.yielded t kw) (fun t => t.commitment)
  | .genset => w.reduceIf (fun t => t.gensetIndex.isSome) (fun t => w.effAt t.storageIndex) (fun _ => kw)

theorem State.takeYield_nothing {s : State} (active : s.cu.active = none) (proposal : s.cu.proposal = none) (sup : Supplier) (kw : Nat) :
    s.takeYield sup kw = s := by
  unfold State.takeYield
  rw [active, proposal]
  rfl

theorem State.takeYield_something {s : State} (h : s.cu.active ≠ none ∨ s.cu.proposal ≠ none) (sup : Supplier) (kw : Nat) :
    s.takeYield sup kw = (s.withdraw.reduceYielded sup kw).trigger := by
  unfold State.takeYield
  refine (if_neg ?_).trans ?_
  · rw [Bool.and_eq_true, Option.isNone_iff_eq_none, Option.isNone_iff_eq_none]
    exact not_and_or.2 h
  · cases sup <;> rfl

theorem State.reduceYielded_pack (w : State) (kw : Nat) :
    w.reducedWhen (w.reduceYielded .pack kw) (fun _ => True)
      (fun u => min (w.effAt u.storageIndex) (kw * (100 - w.wear.battery.derate) / 100)) (fun u => u.commitment) :=
  State.reduceIf_reducedWhen (s := w) (condition := fun _ => true) (fun _ => ⟨fun _ => trivial, fun _ => rfl⟩)
    (fun u => w.yielded u kw) (fun u => u.commitment)

theorem State.reduceYielded_genset (w : State) (kw : Nat) :
    w.reducedWhen (w.reduceYielded .genset kw) (fun u => u.gensetIndex ≠ none) (fun u => w.effAt u.storageIndex) (fun _ => kw) :=
  State.reduceIf_reducedWhen (s := w) (condition := fun u => u.gensetIndex.isSome) (fun _ => Option.isSome_iff_ne_none)
    (fun u => w.effAt u.storageIndex) (fun _ => kw)

/-- Settles O31: by the port, the gate, and whether there is a contract or a proposal. -/
theorem yieldReducesTheContract : Obligations.YieldReducesTheContract := by
  intro p kw s
  cases source : supplierOf p with
  | none =>
    have port : p = .traction ∨ p = .brake := by cases p <;> simp [supplierOf] at source ⊢
    have ran := exec_yield_notSource port kw s
    have other : ¬ (p = .pack ∨ p = .genset) := by rcases port with rfl | rfl <;> simp
    exact ⟨_, ran, within_of_exec ran, fun _ => ⟨answer_within _ _ _ _ _ _ _, State.answer_answered _ _ _ _ _ _ _⟩,
      fun k => absurd k other, fun k => absurd k other⟩
  | some sup =>
    have other : ¬ (p = .traction ∨ p = .brake) := by rintro (rfl | rfl) <;> cases source
    by_cases gate : s.cu.gate = .opened
    swap
    · have ran := exec_yield_closed source kw gate
      exact ⟨_, ran, within_of_exec ran, fun k => absurd k other,
        fun _ _ => ⟨answer_within _ _ _ _ _ _ _, State.answer_answered _ _ _ _ _ _ _⟩, fun _ k => absurd k gate⟩
    have ran := exec_yield_open source kw gate
    refine ⟨_, ran, within_of_exec ran, fun k => absurd k other, fun _ k => absurd gate k, fun _ _ => ?_⟩
    refine ⟨_, answer_within _ _ _ _ _ _ _, State.answer_answered _ _ _ _ _ _ _,
      fun active proposal => State.takeYield_nothing (s := s.answer p _ _ _ _) active proposal _ _, fun something => ?_⟩
    rw [State.takeYield_something (s := s.answer p _ 0x22 .done _) something]
    refine ⟨_, _, State.withdraw_withdrawn _, State.trigger_triggered _, ?_, ?_⟩
    · rintro rfl
      cases source
      have derate : (s.answer .pack (.yieldPower .pack kw) 0x22 .done (decide (1023 < kw))).withdraw.wear = s.wear :=
        State.withdraw_within (s.answer .pack (.yieldPower .pack kw) 0x22 .done (decide (1023 < kw))) .wear (by decide)
      rw [← derate]
      exact State.reduceYielded_pack _ _
    · rintro rfl
      cases source
      exact State.reduceYielded_genset _ _

/-! ### The genset's leaving ONLINE, and the battery derate (R51, R53 to R55) -/

theorem State.takeLeaving_eq {s w : State} (h : s.withdrawnIf (fun p => p.terms.gensetIndex.isSome) = w) :
    s.takeLeaving = w.reduceIf (fun t => t.gensetIndex.isSome) (fun t => w.effAt t.storageIndex) (fun _ => 0) := by
  subst h
  rfl

theorem State.takeDerate_eq {s r w : State} (revised : s.revise = r)
    (h : r.withdrawnIf (fun p => decide (r.effAt p.terms.storageIndex < p.terms.share)) = w) :
    s.takeDerate =
      w.reduceIf (fun t => decide (w.effAt t.storageIndex < t.share)) (fun t => w.effAt t.storageIndex) (fun t => t.commitment) := by
  subst revised h
  rfl

/-- A revision changes the active contract and the reference alone of what the other conditions read. -/
theorem State.revise_reads (s : State) : s.revise.cu.proposal = s.cu.proposal ∧ ∀ i, s.revise.effAt i = s.effAt i := by
  have derate : s.revise.wear = s.wear := (within_revise s).1 .wear (by decide)
  suffices h : s.revise.cu.proposal = s.cu.proposal ∧ s.revise.view.storage = s.view.storage by
    obtain ⟨proposal, storage⟩ := h
    refine ⟨proposal, fun i => ?_⟩
    unfold State.effAt State.derate
    rw [storage, derate]
  cases active : s.cu.active with
  | none => rw [State.revise_none active]; exact ⟨rfl, rfl⟩
  | some c =>
    by_cases same : (c.terms.refit s.acceptance s.settings.regenCap).ceiling = c.terms.ceiling ∧
        (c.terms.refit s.acceptance s.settings.regenCap).charge = c.terms.charge
    · rw [State.revise_same active same.1 same.2, State.usedInputs_cu, State.usedInputs_view]
      exact ⟨rfl, rfl⟩
    · rw [State.revise_changed active rfl same, State.replaced_cu, State.replaced_view]
      exact ⟨rfl, rfl⟩

/-- Settles O37: each change by the gate; while it is OPEN the steps in their order. -/
theorem supplyChangesAreTaken : Obligations.SupplyChangesAreTaken := by
  refine ⟨fun s => ?_, fun s => ?_⟩
  · by_cases gate : s.cu.gate = .opened
    · have ran : exec .gensetLeavesOnline s = .next (s.consume .gensetLeavesOnline).takeLeaving.trigger := if_pos (isOpen_iff.2 gate)
      refine ⟨_, ran, within_of_exec ran, fun k => absurd gate k, fun _ => ?_⟩
      rw [State.takeLeaving_eq rfl]
      refine ⟨_, _, fun ⟨p, proposal, named⟩ => State.withdrawnIf_withdrawn proposal (Option.isSome_iff_ne_none.2 named),
        fun none_ => State.withdrawnIf_stays fun p proposal => ?_,
        State.reduceIf_reducedWhen (fun _ => Option.isSome_iff_ne_none) _ _, State.trigger_triggered _⟩
      rw [none_ p proposal]
      rfl
    · have ran : exec .gensetLeavesOnline s = .next (s.consume .gensetLeavesOnline) := if_neg (mt isOpen_iff.1 gate)
      exact ⟨_, ran, within_of_exec ran, fun _ => rfl, fun k => absurd k gate⟩
  · by_cases gate : s.cu.gate = .opened
    · have ran : exec .derateChange s = .next (s.consume .derateChange).takeDerate.trigger := if_pos (isOpen_iff.2 gate)
      obtain ⟨same, eff⟩ := (s.consume .derateChange).revise_reads
      refine ⟨_, ran, within_of_exec ran, fun k => absurd gate k, fun _ => ?_⟩
      rw [State.takeDerate_eq rfl rfl]
      refine ⟨_, _, _, State.revise_revised _,
        fun ⟨p, proposal, short⟩ => State.withdrawnIf_withdrawn (same.trans proposal) (decide_eq_true ((eff _).trans_lt short)),
        fun none_ => State.withdrawnIf_stays fun p proposal => decide_eq_false ?_,
        State.reduceIf_reducedWhen (fun _ => decide_eq_true_iff) _ _, State.trigger_triggered _⟩
      rw [eff]
      exact Nat.not_lt.2 (none_ p (same.symm.trans proposal))
    · have ran : exec .derateChange s = .next (s.consume .derateChange) := if_neg (mt isOpen_iff.1 gate)
      exact ⟨_, ran, within_of_exec ran, fun _ => rfl, fun k => absurd k gate⟩

/-! ### Port states (R37, R38, R59) -/

theorem State.declineLost_declines {s : State} {p : Proposal} (gate : s.cu.gate = .opened) (proposal : s.cu.proposal = some p)
    (required : p.required.genset = true) :
    s.declineLost = (s.discard p (PartySet.only .genset) .lost).continueRound false := by
  unfold State.declineLost
  rw [proposal]
  exact if_pos (by rw [isOpen_iff.2 gate, required]; rfl)

theorem State.declineLost_stays {s : State}
    (h : s.cu.gate ≠ .opened ∨ ∀ p, s.cu.proposal = some p → p.required.genset = false) : s.declineLost = s := by
  unfold State.declineLost
  cases proposal : s.cu.proposal with
  | none => rfl
  | some p =>
    refine if_neg fun k => ?_
    obtain ⟨o, required⟩ := Bool.and_eq_true _ _ ▸ k
    exact h.elim (fun closed => closed (isOpen_iff.1 o)) fun none_ => absurd (required.symm.trans (none_ p proposal)) nofun

theorem drops_iff {s : State} (now : PortState) : (now != PortState.up && s.isOpen) = true ↔ now ≠ .up ∧ s.cu.gate = .opened := by
  rw [Bool.and_eq_true, bne_iff_ne, isOpen_iff]

/-- A Traction or Pack port gone while the gate is OPEN drops the contract; any other change tests the gate. -/
theorem essentialPort_taken {s t : State} {now : PortState} {reason : DropReason} {closed : Prop} (iff : s.cu.gate = .opened ↔ ¬ closed)
    (ran : t = if now != PortState.up && s.isOpen then s.drop reason else s.testGate) :
    (now ≠ .up → s.cu.gate = .opened → s.droppedFor t reason) ∧ (now = .up ∨ closed → s.gateTested t) := by
  refine ⟨fun gone gate => ?_, fun other => ?_⟩
  · rw [if_pos ((drops_iff now).2 ⟨gone, gate⟩)] at ran
    rw [ran]
    exact State.drop_droppedFor rfl rfl rfl rfl reason
  · rw [if_neg] at ran
    · rw [ran]
      exact s.testGate_tested
    · rw [drops_iff]
      exact fun ⟨gone, gate⟩ => other.elim gone (iff.1 gate)

/-- Settles O34: by the port; for the Genset port by what its loss declines. -/
theorem portStatesAtTheContractUnit : Obligations.PortStatesAtTheContractUnit := by
  intro p now s
  have open_ : s.cu.gate = .opened ↔ ¬ s.cu.gate ≠ .opened := not_not.symm
  cases p with
  | traction =>
    have ran : exec (.portStateContract .traction now) s = .next _ := rfl
    exact ⟨_, ran, within_of_exec ran, fun _ => essentialPort_taken (s := s.consume _) open_ rfl, fun k => (nomatch k), fun k => nomatch k⟩
  | pack =>
    have ran : exec (.portStateContract .pack now) s = .next _ := rfl
    exact ⟨_, ran, within_of_exec ran, fun _ => essentialPort_taken (s := s.consume _) open_ rfl, fun k => (nomatch k), fun k => nomatch k⟩
  | brake =>
    have ran : exec (.portStateContract .brake now) s = .next (s.consume _) := rfl
    exact ⟨_, ran, within_of_exec ran, fun k => (nomatch k), fun k => (nomatch k), fun _ => rfl⟩
  | genset =>
    have ran : exec (.portStateContract .genset now) s =
      .next (if now != PortState.up then (s.consume (.portStateContract .genset now)).declineLost
        else s.consume (.portStateContract .genset now)) := rfl
    refine ⟨_, ran, within_of_exec ran, fun k => (nomatch k), fun _ => ⟨fun q gone gate proposal required => ?_, fun other => ?_⟩,
      fun k => nomatch k⟩
    · rw [if_pos (bne_iff_ne.2 gone), State.declineLost_declines (s := s.consume _) gate proposal required]
      exact ⟨_, State.discard_discarded _ _ _ _, State.continueRound_continued _ _⟩
    · split
      · next gone => exact State.declineLost_stays (s := s.consume _) (other.resolve_left (bne_iff_ne.1 gone))
      · rfl

end Sys2Proof.Machine

/-! ## The charge need, arrival notices and the peak expiry (R8, R12, R24, R51, R58) -/

namespace Sys2Proof.Machine

/-! ### The charge need (R24) -/

/-- The charge need as an evaluation leaves it; with no pack report it stays (R24). -/
def State.needNow (s : State) : Bool :=
  match s.view.pack with
  | none => s.cu.chargeNeed
  | some p => chargeNeedAfter s.settings.chargeStart s.settings.chargeStop p.content.soc s.cu.chargeNeed

theorem State.needNow_none {s : State} (h : s.view.pack = none) : s.needNow = s.cu.chargeNeed := by
  unfold State.needNow
  rw [h]

theorem State.needNow_some {s : State} {k : Place PackReport} (h : s.view.pack = some k) :
    s.needNow = if k.content.soc < s.settings.chargeStart then true
      else if s.settings.chargeStop ≤ k.content.soc then false else s.cu.chargeNeed := by
  unfold State.needNow
  rw [h]
  rfl

/-- An evaluation of the charge need: the need, and SOC_LOW as it becomes set (R24, R75). -/
theorem State.evaluateNeed_eq (s : State) :
    s.evaluateNeed = { s with
      cu := { s.cu with chargeNeed := s.needNow }
      signals := s.signals ++ if s.needNow = true ∧ s.cu.chargeNeed = false then [.activitySignal .socLow] else [] } := by
  unfold State.evaluateNeed
  cases pack : s.view.pack with
  | none =>
    rw [State.needNow_none pack, if_neg (by simp), List.append_nil]
  | some p =>
    have need : chargeNeedAfter s.settings.chargeStart s.settings.chargeStop p.content.soc s.cu.chargeNeed = s.needNow := by
      unfold State.needNow
      rw [pack]
    dsimp only
    rw [need, State.raiseIf_eq]
    cases s.needNow <;> cases s.cu.chargeNeed <;> rfl

/-! ### Arrival notices (R12, R37, R38, R53 to R55) -/

/-- An arrival notice up to what the gate decides: the since-drop flag and the charge need. -/
def State.arrived (s : State) (kind : ArrivalKind) (ch : ChangeSet) : State :=
  let a := (s.consume (.arrivalNotice kind ch)).noteArrival kind
  if ch.chargeMark then a.evaluateNeed else a

theorem State.noteArrival_eq (s : State) (kind : ArrivalKind) :
    s.noteArrival kind = { s with cu := { s.cu with
      sinceTraction := s.cu.sinceTraction || kind == .traction
      sincePack := s.cu.sincePack || kind == .pack } } := by
  have no : ∀ a b : ArrivalKind, a ≠ b → (a == b) = false := fun a b h => beq_eq_false_iff_ne.2 h
  cases kind <;> simp [State.noteArrival, State.onCu, no]

/-- The charge need after the notice: evaluated if the report crosses a charge mark. -/
def State.needAfter (s : State) (ch : ChangeSet) : Bool := if ch.chargeMark then s.needNow else s.cu.chargeNeed

theorem State.arrived_eq (s : State) (kind : ArrivalKind) (ch : ChangeSet) :
    s.arrived kind ch = { s with
      cu := { s.cu with
        sinceTraction := s.cu.sinceTraction || kind == .traction
        sincePack := s.cu.sincePack || kind == .pack
        chargeNeed := s.needAfter ch }
      signals := s.signals.erase (.arrivalNotice kind ch) ++
        if s.needAfter ch = true ∧ s.cu.chargeNeed = false then [.activitySignal .socLow] else [] } := by
  unfold State.arrived State.needAfter
  rw [State.noteArrival_eq]
  cases ch.chargeMark with
  | true => exact State.evaluateNeed_eq _
  | false => simp [State.consume]

theorem State.arrived_within (s : State) (kind : ArrivalKind) (ch : ChangeSet) : Within [.cu, .signals] s (s.arrived kind ch) := by
  rw [State.arrived_eq]
  intro p h
  cases p <;> first | rfl | exact absurd (by decide) h

theorem exec_arrival (kind : ArrivalKind) (ch : ChangeSet) (s : State) :
    exec (.arrivalNotice kind ch) s =
      if s.isOpen then .next ((s.arrived kind ch).takeChanges kind ch (s.needAfter ch != s.cu.chargeNeed))
      else .next (s.arrived kind ch).testGate := by
  have gate : (s.arrived kind ch).isOpen = s.isOpen := by rw [State.arrived_eq]; rfl
  have need : (s.arrived kind ch).cu.chargeNeed = s.needAfter ch := by rw [State.arrived_eq]
  rw [← gate, ← need]
  rfl

/-- The revision an arrival calls for (R53). -/
def State.arrivedRevised (a : State) (ch : ChangeSet) : State := if ch.acceptance then a.revise else a

/-- The list an arrival brings, taken (R54, R55). -/
def State.arrivedListed (r : State) (kind : ArrivalKind) (ch : ChangeSet) : State :=
  if ch.offers then
    match kind with
    | .storageList => r.takeList .pack
    | .gensetList => r.takeList .genset
    | .traction => r
    | .pack => r
  else r

theorem State.takeChanges_eq (a : State) (kind : ArrivalKind) (ch : ChangeSet) (changed : Bool) :
    a.takeChanges kind ch changed =
      if ch.basis || ch.giveBack || ch.offers || changed then ((a.arrivedRevised ch).arrivedListed kind ch).trigger
      else (a.arrivedRevised ch).arrivedListed kind ch := by
  cases kind <;> rfl

/-- Settles O36: what is taken first whatever the gate, then by the gate. -/
theorem arrivalNoticesAreTaken : Obligations.ArrivalNoticesAreTaken := by
  intro kind ch s
  have ran := exec_arrival kind ch s
  have gateKept : (s.arrived kind ch).cu.gate = s.cu.gate := by rw [State.arrived_eq]
  have taken : ∃ need, (s.arrived kind ch).cu = { s.cu with
        sinceTraction := s.cu.sinceTraction || kind == .traction,
        sincePack := s.cu.sincePack || kind == .pack,
        chargeNeed := need } ∧
      (∀ k, ch.chargeMark = true → s.view.pack = some k →
        need = (if k.content.soc < s.settings.chargeStart then true
          else if s.settings.chargeStop ≤ k.content.soc then false else s.cu.chargeNeed)) ∧
      (ch.chargeMark = false ∨ s.view.pack = none → need = s.cu.chargeNeed) ∧
      (s.arrived kind ch).signals = s.signals.erase (.arrivalNotice kind ch) ++
        (if need = true ∧ s.cu.chargeNeed = false then [.activitySignal .socLow] else []) := by
    refine ⟨s.needAfter ch, by rw [State.arrived_eq], fun k mark pack => ?_, fun still => ?_, by rw [State.arrived_eq]⟩
    · rw [State.needAfter, if_pos mark, State.needNow_some pack]
    · unfold State.needAfter
      split
      · next mark => exact State.needNow_none (still.resolve_left fun k => absurd (mark.symm.trans k) nofun)
      · rfl
  by_cases gate : s.cu.gate = .opened
  swap
  · rw [if_neg (mt isOpen_iff.1 gate)] at ran
    exact ⟨_, _, ran, within_of_exec ran, s.arrived_within kind ch, taken, fun _ => State.testGate_tested _, fun k => absurd k gate⟩
  rw [if_pos (isOpen_iff.2 gate)] at ran
  refine ⟨_, _, ran, within_of_exec ran, s.arrived_within kind ch, taken, fun k => absurd gate k, fun _ => ?_⟩
  have need : (s.arrived kind ch).cu.chargeNeed = s.needAfter ch := by rw [State.arrived_eq]
  rw [State.takeChanges_eq]
  refine ⟨(s.arrived kind ch).arrivedRevised ch, ((s.arrived kind ch).arrivedRevised ch).arrivedListed kind ch, fun acc => ?_, fun acc => ?_, fun off k => ?_, fun off k => ?_, fun none_ => ?_,
    fun something => ?_, fun basis giveBack offers same => ?_⟩
  · rw [State.arrivedRevised, if_pos acc]
    exact State.revise_revised _
  · rw [State.arrivedRevised, if_neg (by simp [acc])]
  · subst k
    unfold State.arrivedListed
    rw [if_pos off]
    exact State.takeList_taken _ .pack
  · subst k
    unfold State.arrivedListed
    rw [if_pos off]
    exact State.takeList_taken _ .genset
  · unfold State.arrivedListed
    rcases none_ with off | rfl | rfl
    · rw [if_neg (by simp [off])]
    · exact ite_self _
    · exact ite_self _
  · rw [if_pos]
    · exact State.trigger_triggered _
    · rw [Bool.or_eq_true, Bool.or_eq_true, Bool.or_eq_true, bne_iff_ne, ← need, or_assoc, or_assoc]
      exact something
  · rw [need] at same
    rw [if_neg]
    simp [basis, giveBack, offers, same]

/-! ### Charge marks (R24, R162) -/

section
variable {s : State} {x : Settings} {mark : ChargeMark} {value : Int}
  (written : s.settings.withChargeMark mark (writtenIn 0 1000 value).value.toNat = x)
include written

theorem State.writeChargeMarkOp_same (same : x = s.settings) : s.writeChargeMarkOp mark value = s := by
  subst written
  exact if_pos same

theorem State.writeChargeMarkOp_changed {a : State} (evaluated : State.evaluateNeed { s with settings := x } = a)
    (changed : x ≠ s.settings) : s.writeChargeMarkOp mark value = a.triggerIf (a.cu.chargeNeed != s.cu.chargeNeed) := by
  subst written evaluated
  exact if_neg changed

end

/-- Settles O38: by whether the settings change, and then whether the charge need does. -/
theorem chargeMarkIsWritten : Obligations.ChargeMarkIsWritten := by
  intro mark value s
  have within := (within_writeChargeMarkOp s mark value).1
  refine ⟨_, s.writeChargeMarkOp mark value, rfl, ?_, rfl, within, ?_⟩
  · exact State.writeDone_replies (within .svc (by decide)) _ (by decide) _
  intro v x
  have written : s.settings.withChargeMark mark (writtenIn 0 1000 value).value.toNat = x := by
    rw [writtenIn_value (by decide)]
    cases mark <;> rfl
  by_cases same : x = s.settings
  · rw [State.writeChargeMarkOp_same written same]
    refine ⟨same.symm, fun _ => ?_, fun k changed => absurd same changed⟩
    rw [same]
  have ran := State.writeChargeMarkOp_changed written (State.evaluateNeed_eq _) same
  dsimp only at ran
  refine ⟨?_, fun none_ => ?_, fun k _ pack => ?_⟩
  · rw [ran]
    exact (within_triggerIf _ _).1 .settings (by decide)
  · have need := State.needNow_none (s := { s with settings := x }) (none_.resolve_left same)
    rw [ran, need]
    simp [State.triggerIf]
  · have need := State.needNow_some (s := { s with settings := x }) pack
    rw [ran, ← need]
    intro need' a
    refine ⟨fun still => ?_, fun changed => ?_⟩
    · exact if_neg (by simp [need', still])
    · have triggers : a.triggerIf (need' != s.cu.chargeNeed) = a.trigger := if_pos (bne_iff_ne.2 changed)
      exact (congrArg a.triggered triggers).mpr a.trigger_triggered

end Sys2Proof.Machine

/-! ## The peak expiry: the mark, the best lasting entry and the reduction (R8, R54, R58) -/

namespace Sys2Proof.Machine

/-! ### The best lasting entry (R58) -/

/-- An entry is preferred to another at a peak expiry: greater effective power, then lower cost, then lower index (R58). -/
def outlasts (derate : Nat) (e f : Nat × Offer) : Prop :=
  derated derate f.2.power < derated derate e.2.power ∨
    (derated derate f.2.power = derated derate e.2.power ∧ (e.2.cost < f.2.cost ∨ (e.2.cost = f.2.cost ∧ e.1 < f.1)))

theorem outlasts_trans {derate : Nat} {e f g : Nat × Offer} (h : outlasts derate e f) (k : outlasts derate f g) : outlasts derate e g := by
  unfold outlasts at *
  omega

theorem indexed_lower {keep : Offer → Bool} {n : Nat} {os : List Offer} {e : Nat × Offer} (h : e ∈ indexed keep n os) : n ≤ e.1 := by
  obtain ⟨k, -, place, -⟩ := mem_indexed.1 (show (e.1, e.2) ∈ indexed keep n os from h)
  omega

theorem indexed_pairwise (keep : Offer → Bool) (n : Nat) (os : List Offer) : (indexed keep n os).Pairwise fun e f => e.1 < f.1 := by
  induction os generalizing n with
  | nil => exact .nil
  | cons o os ih =>
    unfold indexed
    split
    · exact .cons (fun e h => indexed_lower h) (ih _)
    · exact ih _

theorem bestContinuous_none {derate : Nat} {l : List (Nat × Offer)} (h : bestContinuous derate l = none) : l = [] := by
  cases l with
  | nil => rfl
  | cons a l =>
    unfold bestContinuous at h
    split at h
    · cases h
    · split at h
      · cases h
      · split at h
        · cases h
        · split at h <;> cases h

/-- Of an entry and the best of those after it, the one preferred is taken. -/
theorem bestContinuous_cons {derate : Nat} {a f : Nat × Offer} {l : List (Nat × Offer)} (best : bestContinuous derate l = some f)
    (index : a.1 < f.1) :
    (bestContinuous derate (a :: l) = some a ∧ outlasts derate a f) ∨
      (bestContinuous derate (a :: l) = some f ∧ outlasts derate f a) := by
  unfold bestContinuous outlasts
  rw [best]
  dsimp only
  by_cases less : derated derate a.2.power < derated derate f.2.power
  · exact .inr ⟨if_pos less, .inl less⟩
  by_cases more : derated derate f.2.power < derated derate a.2.power
  · exact .inl ⟨(if_neg less).trans (if_pos more), .inl more⟩
  by_cases cheaper : f.2.cost < a.2.cost
  · exact .inr ⟨(if_neg less).trans ((if_neg more).trans (if_pos cheaper)), .inr ⟨by omega, .inl cheaper⟩⟩
  · exact .inl ⟨(if_neg less).trans ((if_neg more).trans (if_neg cheaper)), .inr ⟨by omega, by omega⟩⟩

/-- The entry found is on the list and preferred to every other. -/
theorem bestContinuous_best {derate : Nat} {l : List (Nat × Offer)} (order : l.Pairwise fun e f => e.1 < f.1) {e : Nat × Offer}
    (h : bestContinuous derate l = some e) : e ∈ l ∧ ∀ f ∈ l, f ≠ e → outlasts derate e f := by
  induction l generalizing e with
  | nil => cases h
  | cons a l ih =>
    obtain ⟨first, rest⟩ := List.pairwise_cons.1 order
    cases best : bestContinuous derate l with
    | none =>
      obtain rfl := bestContinuous_none best
      cases h
      exact ⟨List.mem_cons_self, fun f mem ne => absurd (List.mem_singleton.1 mem) ne⟩
    | some f =>
      obtain ⟨mem, prefer⟩ := ih rest best
      rcases bestContinuous_cons best (first f mem) with ⟨found, better⟩ | ⟨found, better⟩
      · rw [found] at h
        cases h
        refine ⟨List.mem_cons_self, fun g inList ne => ?_⟩
        by_cases same : g = f
        · exact same ▸ better
        · exact outlasts_trans better (prefer g ((List.mem_cons.1 inList).resolve_left ne) same)
      · rw [found] at h
        cases h
        refine ⟨List.mem_cons_of_mem _ mem, fun g inList ne => ?_⟩
        rcases List.mem_cons.1 inList with rfl | later
        · exact better
        · exact prefer g later ne

/-- An entry a contract may move to: CONTINUOUS and usable, in the list held (R58). -/
def State.lastingAt (s : State) (quiet : Bool) (i : Nat) (o : Offer) : Prop :=
  ∃ l, s.view.storage = some l ∧ 1 ≤ i ∧ l.content[i - 1]? = some o ∧
    o.duration = none ∧ o.excluded = false ∧ o.expired = false ∧ (quiet = true → o.quiet = true)

theorem State.mem_continuousOffers (s : State) (i : Nat) (o : Offer) : (i, o) ∈ s.continuousOffers ↔ s.lastingAt s.quiet i o := by
  have usable : (o.duration.isNone && o.usableStorage s.quiet) = true ↔
      o.duration = none ∧ o.excluded = false ∧ o.expired = false ∧ (s.quiet = true → o.quiet = true) := by
    rw [Bool.and_eq_true, Option.isNone_iff_eq_none]
    unfold Offer.usableStorage Offer.standsIn
    cases s.quiet <;> simp
  unfold State.continuousOffers State.lastingAt
  rw [mem_indexed, usable]
  constructor
  · rintro ⟨k, entry, rfl, lasts⟩
    cases list : s.view.storage with
    | none => rw [list] at entry; cases entry
    | some l =>
      rw [list] at entry
      exact ⟨l, rfl, by omega, by rw [Nat.add_sub_cancel_left]; exact entry, lasts⟩
  · rintro ⟨l, list, pos, entry, lasts⟩
    refine ⟨i - 1, ?_, by omega, lasts⟩
    rw [list]
    exact entry

/-! ### The mark and the reduction (R8, R58) -/

theorem State.markExpired_none {s : State} (h : s.cu.active = none) : s.markExpired = s := by
  unfold State.markExpired
  rw [h]

theorem State.markExpired_some {s : State} {c : Contract} (h : s.cu.active = some c) :
    s.markExpired = { s with view := s.view.expireStorage c.terms.storageIndex s.cu.peakSerial } := by
  unfold State.markExpired
  rw [h]

theorem View.expireStorage_view (v : View) (index serial : Nat) :
    v.expireStorage index serial = { v with storage := (v.expireStorage index serial).storage } := by
  unfold View.expireStorage
  split <;> rfl

theorem State.markExpired_eq (s : State) : s.markExpired = { s with view := { s.view with storage := s.markExpired.view.storage } } := by
  cases active : s.cu.active with
  | none => rw [State.markExpired_none active]
  | some c =>
    rw [State.markExpired_some active]
    exact congrArg (fun v => { s with view := v }) (View.expireStorage_view _ _ _)

/-- The expiry mark on a PEAK entry, while the list held is that the timer started from (R8). -/
theorem View.expireStorage_entry {v : View} {l : Place (List Offer)} (list : v.storage = some l) {i : Nat} {o : Offer}
    (entry : l.content[i]? = some o) (index serial : Nat) :
    ∃ k, (v.expireStorage index serial).storage = some k ∧ k.content[i]? = some
      (if i + 1 = index ∧ serial = v.storageSerial ∧ o.duration ≠ none then { o with expired := true } else o) := by
  unfold View.expireStorage
  by_cases held : serial = v.storageSerial
  · rw [if_pos held]
    simp only [held, true_and]
    rw [list]
    cases index with
    | zero => exact ⟨l, rfl, by rw [if_neg (by simp)]; exact entry⟩
    | succ j =>
      refine ⟨_, rfl, ?_⟩
      dsimp only
      rw [List.getElem?_modify, entry]
      by_cases here : j = i
      · subst here
        simp [Option.isSome_iff_ne_none]
      · have away : ¬ i = j := fun k => here k.symm
        simp [here, away]
  · rw [if_neg held]
    exact ⟨l, list, by rw [if_neg fun k => held k.2.1]; exact entry⟩

theorem State.reduceAtPeak_none {s : State} (h : s.cu.active = none) : s.reduceAtPeak = s := by
  unfold State.reduceAtPeak
  rw [h]

theorem State.reduceAtPeak_moves {s : State} {c : Contract} (h : s.cu.active = some c) {i : Nat} {o : Offer}
    (best : bestContinuous s.derate s.continuousOffers = some (i, o)) :
    s.reduceAtPeak =
      s.reduceTo c { c.terms with peak := none, storageIndex := i } (derated s.derate o.power) c.terms.commitment := by
  unfold State.reduceAtPeak
  rw [h]
  dsimp only
  rw [best]

theorem State.reduceAtPeak_stays {s : State} {c : Contract} (h : s.cu.active = some c)
    (best : bestContinuous s.derate s.continuousOffers = none) :
    s.reduceAtPeak = s.reduceTo c { c.terms with peak := none } 0 c.terms.commitment := by
  unfold State.reduceAtPeak
  rw [h]
  dsimp only
  rw [best]

/-- Settles O33: the mark, the withdrawal, the best lasting entry or none, and the trigger. -/
theorem peakExpiryMovesOrReduces : Obligations.PeakExpiryMovesOrReduces := by
  intro s
  by_cases stopped : s.cu.peak = .stopped
  · have ran : exec .peakExpiry s = .next s := if_neg (not_isRunning_of_stopped stopped)
    exact ⟨s, ran, within_of_exec ran, fun _ => rfl, fun k => absurd stopped k⟩
  obtain ⟨e, he⟩ : ∃ e, e = s.onCu fun c => { c with peak := .stopped } := ⟨_, rfl⟩
  have ran : exec .peakExpiry s = .next e.markExpired.withdraw.reduceAtPeak.trigger := by
    subst he
    exact if_pos (Timer.isRunning_iff.2 stopped)
  have marks := e.markExpired_eq
  have withdrawn := e.markExpired.withdraw_within
  have active : e.markExpired.withdraw.cu.active = s.cu.active := by
    rw [State.withdraw_active, marks, he]
    rfl
  have view : e.markExpired.withdraw.view = e.markExpired.view := withdrawn .view (by decide)
  have quiet : e.markExpired.withdraw.quiet = s.quiet := (withdrawn .quiet (by decide)).trans (by rw [marks, he]; rfl)
  have wear : e.markExpired.withdraw.wear = s.wear := (withdrawn .wear (by decide)).trans (by rw [marks, he]; rfl)
  refine ⟨_, ran, within_of_exec ran, fun k => absurd k stopped, fun _ =>
    ⟨e.markExpired, e.markExpired.withdraw, e.markExpired.withdraw.reduceAtPeak, ?_, ?_, ?_, ?_, State.withdraw_withdrawn _,
      State.trigger_triggered _, ?_, ?_⟩⟩
  · rw [marks, he]
    rfl
  · rw [he]
    exact Within.trans ((within_onCu s _).mono (by decide)).1 ((within_markExpired _).mono (by decide)).1
  · conv_lhs => rw [marks]
    rw [he]
    rfl
  · intro c l i o some_ list entry
    rw [State.markExpired_some (s := e) (by rw [he]; exact some_), he]
    exact View.expireStorage_entry (v := s.view) list entry _ _
  · exact fun none_ => State.reduceAtPeak_none (active.trans none_)
  · intro c some_ lasting eff
    have lastingAt : ∀ i o, lasting i o ↔ (i, o) ∈ e.markExpired.withdraw.continuousOffers := by
      intro i o
      rw [State.mem_continuousOffers, State.lastingAt, view, quiet]
    have worth : ∀ o : Offer, derated e.markExpired.withdraw.derate o.power = eff o := by
      intro o
      unfold State.derate
      rw [wear]
      rfl
    cases best : bestContinuous e.markExpired.withdraw.derate e.markExpired.withdraw.continuousOffers with
    | none =>
      have empty := bestContinuous_none best
      refine ⟨fun ⟨i, o, h⟩ => ?_, fun _ => ?_⟩
      · rw [lastingAt, empty] at h
        cases h
      · rw [State.reduceAtPeak_stays (active.trans some_) best]
        exact State.reduceTo_reduction _ _ _ _ _
    | some f =>
      obtain ⟨i, o⟩ := f
      obtain ⟨mem, prefer⟩ := bestContinuous_best (indexed_pairwise _ _ _) best
      have found : lasting i o := (lastingAt i o).2 mem
      refine ⟨fun _ => ⟨i, o, found, fun j q other ne => ?_, ?_⟩, fun none_ => absurd ⟨i, o, found⟩ none_⟩
      · have preferred := prefer (j, q) ((lastingAt j q).1 other) fun k => ne (congrArg Prod.fst k)
        unfold outlasts at preferred
        rwa [worth, worth] at preferred
      · rw [State.reduceAtPeak_moves (active.trans some_) best, worth]
        exact State.reduceTo_reduction _ _ _ _ _

end Sys2Proof.Machine

/-! ## Key-on and key-off (R37, R61, R80, R100, R166) -/

namespace Sys2Proof.Machine

/-! ### The test of a BLOCKED gate (R37) -/

theorem State.runIdle_gate {s : State} (idle : s.cu.active = none) : s.runIdle.cu.gate = s.cu.gate := by
  have records : s.runRecords.cu.active = none ∧ s.runRecords.cu.gate = s.cu.gate := by
    rw [State.runRecords_cu]
    exact ⟨idle, rfl⟩
  obtain ⟨active, gate⟩ := records
  unfold State.runIdle
  dsimp only
  split
  · rw [State.propose_cu, gate]
  · exact gate
  · have keeps : s.runRecords.keepsActive = true := s.runRecords.keepsActive_iff.2 fun a e => by rw [active] at e; cases e
    rw [State.noneOutcome_flagged, if_pos keeps, State.endRound_eq, if_neg fun h => h.2 active, State.closeRound_cu, gate]

/-- The record with which a run is made as the gate opens. -/
theorem State.openGate_trigger (s : State) : ∃ m : State, m.cu = { s.cu with gate := .opened } ∧ m.ports = s.ports ∧ m.view = s.view ∧
    (∀ c ∈ s.signals, c ∈ m.signals) ∧ s.openGate = m.trigger :=
  ⟨State.levelsFrom ((s.onCu fun c => { c with gate := .opened }).raise .modeDerivation) s.cu.inMismatch s.cu.gate,
    State.levelsFrom_cu _ _ _, State.levelsFrom_ports _ _ _, State.levelsFrom_view _ _ _,
    fun c h => State.mem_levelsFrom (by rw [State.raise_signals]; exact List.mem_append_left _ h), rfl⟩

theorem State.openGate_gate {s : State} (active : s.cu.active = none) (round : s.cu.round = .idle) : s.openGate.cu.gate = .opened := by
  obtain ⟨m, cu, -, -, -, eq⟩ := s.openGate_trigger
  rw [eq, State.trigger_idle (by rw [cu]) (by rw [cu]; exact round), State.runIdle_gate (by rw [cu]; exact active), cu]

/-- A BLOCKED gate opens exactly on R37's conditions, and else nothing happens. -/
theorem State.testGate_blocked {s : State} (gate : s.cu.gate = .blocked) (rests : s.cu.restsUnlessOpen) :
    (s.testGate.cu.gate = .opened ↔ s.mayOpen = true) ∧ (s.testGate.cu.gate ≠ .opened → s.testGate = s) := by
  obtain ⟨active, -, round, -⟩ := rests (by rw [gate]; nofun)
  have test : s.testGate = if s.mayOpen then s.openGate else s := by
    unfold State.testGate
    rw [gate]
  rw [test]
  by_cases opens : s.mayOpen = true
  · rw [if_pos opens]
    have opened := State.openGate_gate active round
    exact ⟨⟨fun _ => opens, fun _ => opened⟩, fun k => absurd opened k⟩
  · rw [if_neg opens]
    exact ⟨⟨fun k => absurd (gate.symm.trans k) nofun, fun k => absurd k opens⟩, fun _ => rfl⟩

/-! ### Key-on (3-2, 4-3, 11-5) -/

theorem within_evaluateStart_cu (s : State) : s.evaluateStart.cu = s.cu := (within_evaluateStart s).1 .cu (by decide)

/-- Settles O15: by whether the load has ended; then the gate's test from BLOCKED. -/
theorem keyOnTestsTheGate : Obligations.KeyOnTestsTheGate := by
  intro s off rests
  have ran : exec .keyOn s = .next (if s.loaded then State.keyTaken { s with key := true } else { s with key := true }) :=
    if_neg (by rw [off]; nofun)
  by_cases loaded : s.loaded = true
  swap
  · rw [if_neg loaded] at ran
    exact ⟨_, ran, rfl, fun _ => rfl, fun k => absurd k loaded⟩
  rw [if_pos loaded] at ran
  obtain ⟨u, hu⟩ : ∃ u : State, u = { s with key := true, store := { s.store with saveTimer := .running 600000 } } := ⟨_, rfl⟩
  have taken : State.keyTaken { s with key := true } = u.testGate.evaluateStart := by rw [hu]; rfl
  have frame := (((within_testGate u).mono (m := keyPieces) (by decide)).trans
    ((within_evaluateStart _).mono (by decide))).1
  have noStore := (((within_testGate u).mono (m := .gs :: contractPieces) (by decide)).trans
    ((within_evaluateStart _).mono (by decide))).1
  rw [taken] at ran
  refine ⟨_, ran, (frame .key (by decide)).trans (by rw [hu]), fun k => absurd (loaded.symm.trans k) nofun,
    fun _ => ⟨?_, ⟨_, ?_, State.evaluateStart_evaluated _⟩, ?_⟩⟩
  · exact (noStore .store (by decide)).trans (by rw [hu])
  · rw [← hu]
    exact u.testGate_tested
  · intro gate
    obtain ⟨opens, stays⟩ := State.testGate_blocked (s := u) (by rw [hu]; exact gate) (by rw [hu]; exact rests)
    rw [within_evaluateStart_cu]
    refine ⟨?_, fun closed => ?_⟩
    · rw [opens, mayOpen_iff, hu]
      exact ⟨fun ⟨_, ⟨t, p⟩, h⟩ => ⟨t, p, h⟩, fun ⟨t, p, h⟩ => ⟨rfl, ⟨t, p⟩, h⟩⟩
    · rw [stays closed, hu]

end Sys2Proof.Machine

/-! ## The engine halted at a key-off or a reset, and key-off at every block (R80, R82, R61, R166) -/

namespace Sys2Proof.Machine

/-! ### The engine halted, with no start need (R80, R82) -/

/-- With the key off or nothing wanted there is no start need (R66). -/
def State.restsEngine (s : State) : Prop := s.key = false ∨ s.gs.wantedCopy = false

theorem State.evaluateStart_rests {s : State} (h : s.restsEngine) : s.evaluateStart = s := by
  obtain ⟨-, -, stays⟩ := s.evaluateStart_evaluated
  refine stays (.inl ?_)
  rintro ⟨wanted, key, -⟩
  rcases h with off | unwanted
  · exact absurd (key.symm.trans off) nofun
  · exact absurd (wanted.symm.trans unwanted) nofun

/-- What a key-off or a reset makes of an engine that cranks, warms or runs (R80, R82). -/
def State.halted (s : State) : State :=
  match s.gs.state with
  | .cranking => s.abandonCrank
  | .warming => s.retire
  | .online => s.retire
  | .unknown => s
  | .stopped => s
  | .resting => s
  | .cooldown => s
  | .lockedOut => s

theorem State.halted_cranking {s : State} (rests : s.restsEngine) (state : s.gs.state = .cranking) :
    s.halted = { s with gs := { s.gs with crank := .stopped, state := .stopped }, ports := (s.command .stop).ports } := by
  have halts : s.halted = s.abandonCrank := by
    unfold State.halted
    rw [state]
  rw [halts, State.abandonCrank, State.enterStopped, State.evaluateStart_rests]
  · rfl
  · exact rests

theorem State.halted_running {s : State} (rests : s.restsEngine) (state : s.gs.state = .warming ∨ s.gs.state = .online) :
    s.halted = { s with
      gs := { s.gs with warm := .stopped, idleOff := .stopped, state := .cooldown, cooldown := .running s.cooldownMs }
      ports := (s.command .cooldown).ports
      signals := s.signals ++ if s.gs.state == .online then [.gensetLeavesOnline] else [] } := by
  have halts : s.halted = s.retire := by
    unfold State.halted
    rcases state with k | k <;> rw [k]
  rw [halts, State.retire, State.leaving, State.raiseIf_eq, State.enterCooldown, State.evaluateStart_rests]
  · rfl
  · exact rests

theorem State.halted_still {s : State} (crank : s.gs.state ≠ .cranking) (warm : s.gs.state ≠ .warming) (online : s.gs.state ≠ .online) :
    s.halted = s := by
  unfold State.halted
  cases state : s.gs.state with
  | cranking => exact absurd state crank
  | warming => exact absurd state warm
  | online => exact absurd state online
  | _ => rfl

/-- The three ways. -/
theorem GensetState.halts_cases (g : GensetState) :
    g = .cranking ∨ (g = .warming ∨ g = .online) ∨ (g ≠ .cranking ∧ g ≠ .warming ∧ g ≠ .online) := by
  cases g <;> simp

theorem State.halted_signals {s : State} (rests : s.restsEngine) :
    s.halted.signals = s.signals ++ if s.gs.state == .online then [.gensetLeavesOnline] else [] := by
  rcases s.gs.state.halts_cases with state | state | ⟨crank, warm, online⟩
  · rw [State.halted_cranking rests state, state]
    simp
  · rw [State.halted_running rests state]
  · rw [State.halted_still crank warm online]
    simp [online]

/-- The halt queues at most one command, on the Genset port. -/
theorem State.halted_ports {s : State} (rests : s.restsEngine) : s.halted.ports = s.ports ∨
    ∃ c, s.halted.ports = (s.command c).ports ∧
      ((c = .stop ∧ s.gs.state = .cranking) ∨ (c = .cooldown ∧ (s.gs.state = .warming ∨ s.gs.state = .online))) := by
  rcases s.gs.state.halts_cases with state | state | ⟨crank, warm, online⟩
  · rw [State.halted_cranking rests state]
    exact .inr ⟨.stop, rfl, .inl ⟨rfl, state⟩⟩
  · rw [State.halted_running rests state]
    exact .inr ⟨.cooldown, rfl, .inr ⟨rfl, state⟩⟩
  · rw [State.halted_still crank warm online]
    exact .inl rfl

theorem within_halted (s : State) : Tidy gensetPieces s s.halted := by
  unfold State.halted
  split
  · exact within_abandonCrank s
  · exact within_retire s
  · exact within_retire s
  all_goals exact Tidy.refl _ s

/-! ### Notices of other classes stay (R153) -/

/-- A notice of another class leaves the ones that wait. -/
theorem State.mem_submit_other_class {s : State} {p : Port} {n : Notice} (h : n ∈ (s.port p).queue) {m : Notice} (cls : m.cls ≠ n.cls)
    (q : Port) : n ∈ ((s.submit q m).port p).queue := by
  by_cases e : p = q
  · rw [← e, State.submit_port_self]
    by_cases takes : (s.port p).state = .up ∨ ((s.port p).state = .lost ∧ m.cls = .contract)
    · rw [PartnerPort.submit_queue takes]
      by_cases replaces : ∃ x ∈ (s.port p).queue, x.cls = m.cls
      · rw [enqueue_replaces replaces]
        exact List.mem_map.2 ⟨n, h, if_neg fun k => cls k.symm⟩
      · push Not at replaces
        rw [enqueue_new replaces]
        exact List.mem_append_left _ h
    · rwa [PartnerPort.submit_refused takes]
  · rwa [State.submit_port_other s m e]

/-- A CONTRACT notice still waits after the halt. -/
theorem State.mem_halted {s : State} (rests : s.restsEngine) {p : Port} {n : Notice} (h : n ∈ (s.port p).queue) (cls : n.cls = .contract) :
    n ∈ (s.halted.port p).queue := by
  rcases State.halted_ports rests with same | ⟨c, queued, -⟩
  · rwa [State.port_congr same]
  · rw [State.port_congr queued]
    exact State.mem_submit_other_class h (by rw [cls]; nofun) .genset

@[simp] theorem State.notify_state (s : State) (ps : List Port) (n : Notice) (p : Port) :
    ((s.notify ps n).port p).state = (s.port p).state := by
  induction ps generalizing s with
  | nil => rfl
  | cons q ps ih => rw [State.notify_cons, ih, State.submit_port_eq]

/-! ### Key-off at the Contract Unit (R61) -/

theorem State.contractKeyOff_opened {s : State} (gate : s.cu.gate = .opened) : s.contractKeyOff = s.drop .keyOff := by
  unfold State.contractKeyOff
  rw [gate]

theorem State.contractKeyOff_closed {s : State} (gate : s.cu.gate ≠ .opened) :
    s.contractKeyOff.cu = { s.cu with gate := .blocked } ∧ s.contractKeyOff.view = s.view ∧ s.contractKeyOff.ports = s.ports := by
  unfold State.contractKeyOff
  cases k : s.cu.gate with
  | opened => exact absurd k gate
  | safe =>
    dsimp only
    rw [State.levelsFrom_cu, State.levelsFrom_view, State.levelsFrom_ports]
    exact ⟨rfl, rfl, rfl⟩
  | blocked =>
    have same : { s.cu with gate := .blocked } = s.cu := by rw [← k]
    exact ⟨same.symm, rfl, rfl⟩

theorem State.contractKeyOff_states (s : State) (p : Port) : (s.contractKeyOff.port p).state = (s.port p).state := by
  by_cases gate : s.cu.gate = .opened
  · rw [State.contractKeyOff_opened gate, State.port_congr (State.drop_ports s .keyOff), State.notify_state]
  · obtain ⟨-, -, ports⟩ := State.contractKeyOff_closed gate
    rw [State.port_congr ports]

/-! ### Key-off at the sequencer (R80) -/

/-- An engine that cranks, warms or runs is halted with the stop cause KEY_OFF; no other is touched. -/
theorem State.sequencerKeyOff_halts {s : State}
    (state : s.gs.state = .cranking ∨ s.gs.state = .warming ∨ s.gs.state = .online) : s.sequencerKeyOff = s.keyOffCause.halted := by
  have cause : s.keyOffCause.gs.state = s.gs.state := rfl
  unfold State.sequencerKeyOff State.halted
  rw [cause]
  rcases state with k | k | k <;> rw [k]

theorem State.sequencerKeyOff_still {s : State} (rests : s.restsEngine) (crank : s.gs.state ≠ .cranking)
    (warm : s.gs.state ≠ .warming) (online : s.gs.state ≠ .online) : s.sequencerKeyOff = s := by
  unfold State.sequencerKeyOff
  cases state : s.gs.state with
  | cranking => exact absurd state crank
  | warming => exact absurd state warm
  | online => exact absurd state online
  | stopped => exact State.evaluateStart_rests rests
  | cooldown => exact State.evaluateStart_rests rests
  | _ => rfl

/-- What key-off leaves in the contract's record (R61). -/
theorem State.contractKeyOff_record {s : State} (rests : s.cu.restsUnlessOpen) {t : ContractUnit} (left : t = s.contractKeyOff.cu) :
    t.gate = .blocked ∧ t.active = none ∧ t.proposal = none ∧ t.gensetWanted = false ∧ t.counter = s.cu.counter ∧
      t.chargeNeed = s.cu.chargeNeed ∧ t.lastDecline = s.cu.lastDecline := by
  subst left
  by_cases gate : s.cu.gate = .opened
  · rw [State.contractKeyOff_opened gate, State.drop_cu]
    exact ⟨rfl, rfl, rfl, rfl, rfl, rfl, rfl⟩
  · obtain ⟨cu, -, -⟩ := State.contractKeyOff_closed gate
    obtain ⟨active, proposal, -, -, -, -, -, wanted⟩ := rests gate
    rw [cu]
    exact ⟨rfl, active, proposal, wanted, rfl, rfl, rfl⟩

theorem mem_command_genset {s : State} (c : GensetCommand) (up : (s.port .genset).state = .up) :
    .gensetCommand c none 0 ∈ ((s.command c).port .genset).queue := State.mem_submit s _ up

/-- What key-off leaves in the sequencer, and queues (R80). -/
theorem State.sequencerKeyOff_done {s t : State} (off : s.key = false) (gs : t.gs = s.sequencerKeyOff.gs)
    (ports : t.ports = s.sequencerKeyOff.ports) (signals : ∀ c ∈ s.sequencerKeyOff.signals, c ∈ t.signals) :
    (s.gs.state = .cranking → t.gs.state = .stopped ∧ t.gs.crank = .stopped ∧ t.gs.stopCause = .keyOff ∧
      ((s.port .genset).state = .up → .gensetCommand .stop none 0 ∈ (t.port .genset).queue)) ∧
    (s.gs.state = .warming ∨ s.gs.state = .online → t.gs.state = .cooldown ∧ t.gs.warm = .stopped ∧ t.gs.idleOff = .stopped ∧
      t.gs.stopCause = .keyOff ∧ t.gs.cooldown = .running s.cooldownMs ∧
      ((s.port .genset).state = .up → .gensetCommand .cooldown none 0 ∈ (t.port .genset).queue) ∧
      (s.gs.state = .online → .gensetLeavesOnline ∈ t.signals)) ∧
    (s.gs.state ≠ .cranking → s.gs.state ≠ .warming → s.gs.state ≠ .online → t.gs = s.gs) := by
  have rests : s.keyOffCause.restsEngine := .inl off
  rw [gs, State.port_congr ports]
  refine ⟨fun state => ?_, fun state => ?_, fun crank warm online => ?_⟩
  · rw [State.sequencerKeyOff_halts (.inl state), State.halted_cranking rests state]
    exact ⟨rfl, rfl, rfl, fun up => mem_command_genset (s := s.keyOffCause) .stop up⟩
  · rw [State.sequencerKeyOff_halts (.inr state), State.halted_running rests state]
    refine ⟨rfl, rfl, rfl, rfl, rfl, fun up => mem_command_genset (s := s.keyOffCause) .cooldown up, fun online => ?_⟩
    refine signals _ ?_
    rw [State.sequencerKeyOff_halts (.inr state), State.halted_running rests state]
    exact List.mem_append_right _ (by rw [show s.keyOffCause.gs.state = .online from online]; exact List.mem_singleton_self _)
  · rw [State.sequencerKeyOff_still (.inl off) crank warm online]

/-- A CONTRACT notice still waits after key-off at the sequencer. -/
theorem State.mem_sequencerKeyOff {s : State} (off : s.key = false) {p : Port} {n : Notice} (h : n ∈ (s.port p).queue)
    (cls : n.cls = .contract) : n ∈ (s.sequencerKeyOff.port p).queue := by
  rcases s.gs.state.halts_cases with state | state | ⟨crank, warm, online⟩
  · rw [State.sequencerKeyOff_halts (.inl state)]
    exact State.mem_halted (s := s.keyOffCause) (.inl off) h cls
  · rw [State.sequencerKeyOff_halts (.inr state)]
    exact State.mem_halted (s := s.keyOffCause) (.inl off) h cls
  · rwa [State.sequencerKeyOff_still (.inl off) crank warm online]

/-! ### Key-off, block by block -/

/-- A key-off before the save it calls for. -/
def State.keyLostUnsaved (s : State) : State :=
  { s.contractKeyOff.sequencerKeyOff.raise .blendImmediateRun with
    store := { s.contractKeyOff.sequencerKeyOff.store with saveTimer := .stopped } }

theorem State.keyLost_eq (s : State) : s.keyLost = s.keyLostUnsaved.requestWearSave := rfl

theorem State.keyLost_cu (s : State) : s.keyLost.cu = s.contractKeyOff.cu :=
  ((within_requestWearSave s.keyLostUnsaved).1 .cu (by decide)).trans ((within_sequencerKeyOff _).1 .cu (by decide))

theorem State.keyLost_view (s : State) : s.keyLost.view = s.contractKeyOff.view :=
  ((within_requestWearSave s.keyLostUnsaved).1 .view (by decide)).trans ((within_sequencerKeyOff _).1 .view (by decide))

theorem State.keyLost_gs (s : State) : s.keyLost.gs = s.contractKeyOff.sequencerKeyOff.gs :=
  (within_requestWearSave s.keyLostUnsaved).1 .gs (by decide)

theorem State.keyLost_ports (s : State) : s.keyLost.ports = s.contractKeyOff.sequencerKeyOff.ports :=
  (within_requestWearSave s.keyLostUnsaved).1 .ports (by decide)

theorem State.keyLost_signals (s : State) : s.keyLost.signals = s.contractKeyOff.sequencerKeyOff.signals ++ [.blendImmediateRun] :=
  (within_requestWearSave s.keyLostUnsaved).1 .signals (by decide)

/-- The save timer stops and a wear save is requested (R166). -/
theorem State.keyLost_saves (s : State) :
    s.keyLost.store.saveTimer = .stopped ∧
      (s.store.phase = .idle ∨ s.store.phase = .failed → ∃ x : WearContents, x.takenFrom s.wear ∧ s.keyLost.store.phase = .writingWear x) ∧
      (s.store.phase ≠ .idle → s.store.phase ≠ .failed →
        s.keyLost.store.phase = s.store.phase ∧ s.keyLost.store.pendingSave = true) := by
  have kept : s.keyLostUnsaved.store = { s.store with saveTimer := .stopped } := by
    rw [← show s.contractKeyOff.sequencerKeyOff.store = s.store from
      ((within_sequencerKeyOff _).1 .store (by decide)).trans ((within_contractKeyOff s).1 .store (by decide))]
    rfl
  have records : s.keyLost.wear = s.wear :=
    ((within_requestWearSave s.keyLostUnsaved).1 .wear (by decide)).trans
      (((within_sequencerKeyOff _).1 .wear (by decide)).trans ((within_contractKeyOff s).1 .wear (by decide)))
  obtain ⟨begins, waits⟩ := State.saveRequested_of (s := s.keyLostUnsaved) (u := s.keyLostUnsaved) rfl
  rw [← State.keyLost_eq, kept] at begins waits
  rw [records] at begins
  refine ⟨?_, fun free => ?_, fun notIdle notFailed => ?_⟩
  · by_cases free : s.store.phase = .idle ∨ s.store.phase = .failed
    · obtain ⟨x, -, store⟩ := begins free
      rw [store]
    · obtain ⟨notIdle, notFailed⟩ := not_or.1 free
      rw [waits notIdle notFailed]
  · obtain ⟨x, taken, store⟩ := begins free
    exact ⟨x, taken, by rw [store]⟩
  · rw [waits notIdle notFailed]
    exact ⟨rfl, rfl⟩

/-- Settles O16: the Contract Unit, the sequencer and the save, each by what it leaves. -/
theorem keyOffAtEveryBlock : Obligations.KeyOffAtEveryBlock := by
  intro s on loaded rests
  obtain ⟨o, ho⟩ : ∃ o : State, o = { s with key := false } := ⟨_, rfl⟩
  have ran : exec .keyOff s = .next o.keyLost := by
    rw [ho]
    exact (if_pos on).trans (congrArg Host.Outcome.next (if_pos loaded))
  have contract := (within_contractKeyOff o).1
  have off : o.contractKeyOff.key = false := (contract .key (by decide)).trans (by rw [ho])
  have gs : o.contractKeyOff.gs = s.gs := (contract .gs (by decide)).trans (by rw [ho])
  have cooldown : o.contractKeyOff.cooldownMs = s.cooldownMs := by
    unfold State.cooldownMs
    rw [contract .settings (by decide), contract .quiet (by decide), ho]
  have states : ∀ p, (o.contractKeyOff.port p).state = (s.port p).state := fun p => by
    rw [State.contractKeyOff_states, ho]
    rfl
  have done := State.sequencerKeyOff_done off o.keyLost_gs o.keyLost_ports
    fun c raised => by rw [State.keyLost_signals]; exact List.mem_append_left _ raised
  rw [gs, states, cooldown] at done
  obtain ⟨cranking, running, still⟩ := done
  obtain ⟨gate, active, proposal, wanted, counter, need, decline⟩ :=
    State.contractKeyOff_record (s := o) (by rw [ho]; exact rests) o.keyLost_cu
  have saved := o.keyLost_saves
  have cuO : o.cu = s.cu := by rw [ho]
  have storeO : o.store = s.store := by rw [ho]
  have wearO : o.wear = s.wear := by rw [ho]
  rw [cuO] at counter need decline
  rw [storeO, wearO] at saved
  refine ⟨_, ran, ?_, gate, active, proposal, wanted, counter, need, decline, fun opened => ?_, fun closed => ?_,
    cranking, running, still, ?_, saved⟩
  · exact ((within_keyLost o).1 .key (by decide)).trans (by rw [ho])
  · rw [State.keyLost_cu, State.keyLost_view, State.contractKeyOff_opened (s := o) (by rw [ho]; exact opened), State.drop_cu,
      State.drop_view]
    refine ⟨by rw [cuO]; rfl, rfl, fun p up => ?_⟩
    rw [State.port_congr o.keyLost_ports]
    refine State.mem_sequencerKeyOff off ?_ rfl
    rw [State.contractKeyOff_opened (s := o) (by rw [ho]; exact opened), State.port_congr (State.drop_ports _ _), ho]
    exact State.mem_notify (mem_allPorts p) rfl up
  · obtain ⟨cu, view, -⟩ := State.contractKeyOff_closed (s := o) (by rw [ho]; exact closed)
    rw [State.keyLost_cu, State.keyLost_view, cu, view, ho]
    exact ⟨rfl, rfl⟩
  · rw [State.keyLost_signals]
    exact List.mem_append_right _ (List.mem_singleton_self _)

end Sys2Proof.Machine

/-! ## DRIVELINE_RESET at every block (R62, R82, R97, R118, R157) -/

namespace Sys2Proof.Machine

/-! ### Changes of the queues alone -/

/-- The ports differ in their queues, and in the mark of an exchange whose notice was replaced, at most. -/
def State.queuesOnly (s t : State) : Prop :=
  ∀ p, t.port p = { s.port p with queue := (t.port p).queue, exchange := (t.port p).exchange }

theorem State.queuesOnly_of_ports {s t : State} (h : t.ports = s.ports) : s.queuesOnly t := fun p => by rw [State.port_congr h]

theorem State.queuesOnly.trans {s t u : State} (h : s.queuesOnly t) (g : t.queuesOnly u) : s.queuesOnly u := fun p => by
  conv_lhs => rw [g p, h p]

theorem State.notify_queuesOnly (s : State) (ps : List Port) (n : Notice) : s.queuesOnly (s.notify ps n) := by
  induction ps generalizing s with
  | nil => exact State.queuesOnly_of_ports rfl
  | cons p ps ih => exact State.queuesOnly.trans (fun q => State.submit_port_eq s p q n) (ih _)

theorem State.queuesOnly.state {s t : State} (h : s.queuesOnly t) (p : Port) : (t.port p).state = (s.port p).state := by rw [h p]

/-- What waits after a notice was submitted waited before, or is that notice on a port that takes it. -/
theorem State.mem_submit_cases {s : State} {p q : Port} {n x : Notice} (h : x ∈ ((s.submit q n).port p).queue) :
    x ∈ (s.port p).queue ∨ (x = n ∧ p = q ∧ ((s.port p).state = .up ∨ ((s.port p).state = .lost ∧ n.cls = .contract))) := by
  by_cases e : p = q
  · subst e
    rw [State.submit_port_self] at h
    by_cases takes : (s.port p).state = .up ∨ ((s.port p).state = .lost ∧ n.cls = .contract)
    · rw [PartnerPort.submit_queue takes] at h
      unfold enqueue at h
      split at h
      · obtain ⟨y, before, rfl⟩ := List.mem_map.1 h
        split
        · exact .inr ⟨rfl, rfl, takes⟩
        · exact .inl before
      · exact (List.mem_append.1 h).imp id fun k => ⟨List.mem_singleton.1 k, rfl, takes⟩
    · rw [PartnerPort.submit_refused takes] at h
      exact .inl h
  · rw [State.submit_port_other s n e] at h
    exact .inl h

theorem State.mem_notify_cases {s : State} {ps : List Port} {p : Port} {n x : Notice} (h : x ∈ ((s.notify ps n).port p).queue) :
    x ∈ (s.port p).queue ∨ (x = n ∧ p ∈ ps ∧ (s.port p).state ≠ .down) := by
  induction ps generalizing s with
  | nil => exact .inl h
  | cons q ps ih =>
    have states := State.submit_port_eq s q p n
    rcases ih h with before | ⟨rfl, listed, state⟩
    · rcases State.mem_submit_cases before with earlier | ⟨rfl, rfl, takes⟩
      · exact .inl earlier
      · exact .inr ⟨rfl, List.mem_cons_self, by rintro k; simp [k] at takes⟩
    · exact .inr ⟨rfl, List.mem_cons_of_mem _ listed, by rwa [states] at state⟩

theorem State.mem_notify_other_class {s : State} {p : Port} {n : Notice} (h : n ∈ (s.port p).queue) {m : Notice} (cls : m.cls ≠ n.cls)
    (ps : List Port) : n ∈ ((s.notify ps m).port p).queue := by
  induction ps generalizing s with
  | nil => exact h
  | cons q ps ih => exact ih (State.mem_submit_other_class h cls q)

theorem PartySet.tells_of_mem {x : PartySet} {p : Port} (h : p ∈ x.ports) : x.tells p := by
  obtain ⟨t, k, g⟩ := x
  cases p <;> cases t <;> cases k <;> cases g <;> simp [PartySet.ports, PartySet.tells] at h ⊢

/-! ### Ports emptied (R157) -/

theorem State.emptyPorts_port (s : State) (p : Port) : s.emptyPorts.port p = (s.port p).emptyReply.emptyQueue := by
  cases p <;> rfl

/-- An emptied port keeps its state, its timer and tallies, and a request in process, whatever is queued after. -/
theorem State.emptyPorts_kept {s u : State} (h : s.emptyPorts.queuesOnly u) (p : Port) :
    (u.port p).state = (s.port p).state ∧ (u.port p).silence = (s.port p).silence ∧ (u.port p).crcTally = (s.port p).crcTally ∧
      (u.port p).lengthTally = (s.port p).lengthTally ∧ (u.port p).kindTally = (s.port p).kindTally ∧
      (u.port p).overrun = (s.port p).overrun ∧ (∀ r, (u.port p).slot ≠ .reply r) ∧
      (∀ i, (s.port p).slot = .reserved i → (u.port p).slot = .reserved i) := by
  rw [h p, State.emptyPorts_port]
  refine ⟨rfl, rfl, rfl, rfl, rfl, rfl, ?_, fun i reserved => ?_⟩
  · simp only [PartnerPort.emptyReply, PartnerPort.emptyQueue]
    cases (s.port p).slot <;> nofun
  · simp only [PartnerPort.emptyReply, PartnerPort.emptyQueue, reserved]

/-! ### The gate tried from BLOCKED with no contract (R37) -/

theorem State.runIdle_idle {s : State} (idle : s.cu.active = none) :
    (∃ u, s.runIdle = s.runRecords.propose 1 u) ∨ s.runIdle = s.runRecords.closeRound := by
  have active : s.runRecords.cu.active = none := by
    rw [State.runRecords_cu]
    exact idle
  rcases s.runOutcome_cases with ⟨u, result, differ⟩ | ⟨a, -, some_⟩ | ⟨r, result⟩
  · exact .inl ⟨u, by rw [State.runIdle, State.runOutcome_propose result differ]⟩
  · exact absurd (idle.symm.trans some_) nofun
  · have keeps : s.runRecords.keepsActive = true := s.runRecords.keepsActive_iff.2 fun a e => by rw [active] at e; cases e
    refine .inr ?_
    rw [State.runIdle, State.runOutcome_none result]
    dsimp only
    rw [State.noneOutcome_flagged, if_pos keeps, State.endRound_eq, if_neg fun h => h.2 active]

/-- What a test of a BLOCKED gate with no contract can change: an opening and the run it takes. -/
structure State.gateTried (s t : State) : Prop where
  opens : t.cu.gate = .opened ↔ s.mayOpen = true
  stays : t.cu.gate ≠ .opened → t = s
  record : t.cu.active = none ∧ t.cu.lastDrop = s.cu.lastDrop ∧ t.cu.lastDecline = s.cu.lastDecline ∧ t.cu.chargeNeed = s.cu.chargeNeed
  view : t.view = { s.view with reference := t.view.reference }
  signals : ∀ c ∈ s.signals, c ∈ t.signals
  queues : s.queuesOnly t
  offers : ∀ p n, n ∈ (t.port p).queue → n ∈ (s.port p).queue ∨
    ∃ k u, n = .contractOffer k u ∧ t.cu.gate = .opened ∧ ∃ q, t.cu.proposal = some q ∧ q.number = k ∧ q.terms = u ∧ q.required.tells p
  waits : ∀ p n, n.cls ≠ .contract → n ∈ (s.port p).queue → n ∈ (t.port p).queue

theorem State.mem_runRecords_signals {s : State} {c : Instr} (h : c ∈ s.signals) : c ∈ s.runRecords.signals := by
  simp only [State.runRecords, State.usedInputs_signals, State.setWanted_signals]
  exact List.mem_append_left _ h

theorem State.openGate_tried {s : State} (active : s.cu.active = none) (round : s.cu.round = .idle) (opens : s.mayOpen = true) :
    s.gateTried s.openGate := by
  have gate := State.openGate_gate active round
  obtain ⟨i, cu, ports, view, signals, eq⟩ := s.openGate_trigger
  rw [State.trigger_idle (by rw [cu]) (by rw [cu]; exact round)] at eq
  have records : i.runRecords.ports = s.ports := i.runRecords_ports.trans ports
  have raised : ∀ c ∈ s.signals, c ∈ i.runRecords.signals := fun c h => State.mem_runRecords_signals (signals c h)
  have seen : i.runRecords.view = { s.view with reference := i.runRecords.view.reference } := by rw [State.runRecords_view, view]
  have kept : i.runRecords.cu.active = none ∧ i.runRecords.cu.lastDrop = s.cu.lastDrop ∧
      i.runRecords.cu.lastDecline = s.cu.lastDecline ∧ i.runRecords.cu.chargeNeed = s.cu.chargeNeed := by
    rw [State.runRecords_cu, cu]
    exact ⟨active, rfl, rfl, rfl⟩
  have tried : (s.openGate.cu.gate = .opened ↔ s.mayOpen = true) ∧ (s.openGate.cu.gate ≠ .opened → s.openGate = s) :=
    ⟨⟨fun _ => opens, fun _ => gate⟩, fun closed => absurd gate closed⟩
  rcases State.runIdle_idle (s := i) (by rw [cu]; exact active) with ⟨u, proposes⟩ | closes
  · rw [proposes] at eq
    have queues : i.runRecords.queuesOnly s.openGate := by
      rw [eq]
      exact (State.queuesOnly_of_ports rfl).trans (State.notify_queuesOnly (i.runRecords.onCu _) _ _)
    refine ⟨tried.1, tried.2, by rw [eq, State.propose_cu]; exact kept, ?_, ?_, (State.queuesOnly_of_ports records).trans queues,
      fun p n waits => ?_, fun p n other waits => ?_⟩
    · rw [eq, State.propose, State.notify_view]
      exact seen
    · rw [eq, State.propose, State.notify_signals]
      exact raised
    · rw [eq] at waits
      rcases State.mem_notify_cases waits with before | ⟨rfl, listed, -⟩
      · rw [State.port_congr (s := s) (t := i.runRecords.onCu _) records] at before
        exact .inl before
      · refine .inr ⟨_, _, rfl, gate, _, by rw [eq, State.propose_cu], rfl, rfl, PartySet.tells_of_mem listed⟩
    · rw [eq]
      refine State.mem_notify_other_class (s := i.runRecords.onCu _) ?_ (fun k => other k.symm) _
      rwa [State.port_congr (s := s) (t := i.runRecords.onCu _) records]
  · rw [closes] at eq
    refine ⟨tried.1, tried.2, by rw [eq, State.closeRound_cu]; exact kept, by rw [eq]; exact seen, by rw [eq]; exact raised,
      State.queuesOnly_of_ports (by rw [eq]; exact records), fun p n waits => .inl ?_, fun p n _ waits => ?_⟩
    · rwa [eq, State.port_congr (s := s) (t := i.runRecords.closeRound) records] at waits
    · rwa [eq, State.port_congr (s := s) (t := i.runRecords.closeRound) records]

theorem State.gateTried.refl {s : State} (gate : s.cu.gate = .blocked) (active : s.cu.active = none) (shut : ¬ s.mayOpen = true) :
    s.gateTried s :=
  ⟨⟨fun k => absurd (gate.symm.trans k) nofun, fun k => absurd k shut⟩, fun _ => rfl, ⟨active, rfl, rfl, rfl⟩, rfl, fun _ h => h,
    State.queuesOnly_of_ports rfl, fun _ _ h => .inl h, fun _ _ _ h => h⟩

theorem State.testGate_tried {s : State} (gate : s.cu.gate = .blocked) (active : s.cu.active = none) (round : s.cu.round = .idle) :
    s.gateTried s.testGate := by
  have test : s.testGate = if s.mayOpen then s.openGate else s := by
    unfold State.testGate
    rw [gate]
  rw [test]
  by_cases opens : s.mayOpen = true
  · rw [if_pos opens]
    exact State.openGate_tried active round opens
  · rw [if_neg opens]
    exact State.gateTried.refl gate active opens

/-! ### The reset up to its completion (R62, R82) -/

/-- The reset up to the sequencer: ports emptied, the contract dropped, the marks cleared. -/
def State.resetDropped (s : State) : State :=
  { s.emptyPorts.drop .drivelineReset with view := (s.emptyPorts.drop .drivelineReset).view.clearExclusions }

theorem State.sequencerReset_halts (s : State) : s.sequencerReset = (s.onGs fun g => { g with wantedCopy := false }).halted := by
  unfold State.sequencerReset State.halted
  cases state : s.gs.state <;> simp only [State.onGs_gs, state]

/-- The reset's drop, with genset wanted told to the sequencer's copy directly. -/
def State.resetUnwanted (s : State) : State := s.resetDropped.onGs fun g => { g with wantedCopy := false }

theorem State.drivelineReset_eq (s : State) : s.drivelineReset = s.resetUnwanted.halted := State.sequencerReset_halts s.resetDropped

theorem State.resetUnwanted_rests (s : State) : s.resetUnwanted.restsEngine := .inr rfl

theorem State.resetUnwanted_gs (s : State) : s.resetUnwanted.gs = { s.gs with wantedCopy := false } := by
  have kept : s.resetDropped.gs = s.gs :=
    ((within_drop s.emptyPorts .drivelineReset).1 .gs (by decide)).trans ((within_emptyPorts s).1 .gs (by decide))
  rw [← kept]
  rfl

theorem State.drivelineReset_cu (s : State) :
    s.drivelineReset.cu = { s.cu.dropped .drivelineReset with gensetWanted := false } := by
  rw [State.drivelineReset_eq]
  exact ((within_halted s.resetUnwanted).1 .cu (by decide)).trans (State.drop_cu s.emptyPorts .drivelineReset)

theorem State.drivelineReset_view (s : State) :
    s.drivelineReset.view = { s.view with reference := none }.clearExclusions := by
  rw [State.drivelineReset_eq]
  exact ((within_halted s.resetUnwanted).1 .view (by decide)).trans
    (congrArg View.clearExclusions (State.drop_view s.emptyPorts .drivelineReset))

theorem State.drivelineReset_blend (s : State) : s.drivelineReset.blend = { s.blend with regenCopy := none, frictionCopy := none } := by
  rw [State.drivelineReset_eq]
  exact ((within_halted s.resetUnwanted).1 .blend (by decide)).trans ((within_drop s.emptyPorts .drivelineReset).1 .blend (by decide))

/-- The ports up to the halt: emptied, then told of the drop. -/
theorem State.resetUnwanted_ports (s : State) :
    s.resetUnwanted.ports = (s.emptyPorts.notify Port.all (.contractDropped s.cu.activeNumber .drivelineReset)).ports :=
  State.drop_ports s.emptyPorts .drivelineReset

theorem State.halted_queuesOnly {s : State} (rests : s.restsEngine) : s.queuesOnly s.halted := by
  rcases State.halted_ports rests with same | ⟨c, queued, -⟩
  · exact State.queuesOnly_of_ports same
  · exact fun p => by
      rw [State.port_congr queued]
      exact State.submit_port_eq s .genset p _

theorem State.drivelineReset_queuesOnly (s : State) : s.emptyPorts.queuesOnly s.drivelineReset := by
  rw [State.drivelineReset_eq]
  have told : s.emptyPorts.queuesOnly s.resetUnwanted :=
    (s.emptyPorts.notify_queuesOnly _ _).trans (State.queuesOnly_of_ports s.resetUnwanted_ports)
  exact told.trans (State.halted_queuesOnly s.resetUnwanted_rests)

theorem State.emptyPorts_state (s : State) (p : Port) : (s.emptyPorts.port p).state = (s.port p).state := by
  rw [State.emptyPorts_port]
  rfl

theorem State.resetUnwanted_state (s : State) (p : Port) : (s.resetUnwanted.port p).state = (s.port p).state := by
  rw [State.port_congr s.resetUnwanted_ports, State.notify_state, State.emptyPorts_state]

/-- Every port not DOWN waits to be told of the drop. -/
theorem State.drivelineReset_told (s : State) {p : Port} (state : (s.port p).state ≠ .down) :
    .contractDropped s.cu.activeNumber .drivelineReset ∈ (s.drivelineReset.port p).queue := by
  rw [State.drivelineReset_eq]
  refine State.mem_halted s.resetUnwanted_rests ?_ rfl
  rw [State.port_congr s.resetUnwanted_ports]
  exact State.mem_notify (mem_allPorts p) rfl (by rwa [State.emptyPorts_state])

/-- Every notice that waits is the drop's, or the halt's command. -/
theorem State.drivelineReset_notices {s : State} {p : Port} {n : Notice} (waits : n ∈ (s.drivelineReset.port p).queue) :
    (n = .contractDropped s.cu.activeNumber .drivelineReset ∧ (s.port p).state ≠ .down) ∨
      (p = .genset ∧ (s.port p).state = .up ∧
        ((n = .gensetCommand .stop none 0 ∧ s.gs.state = .cranking) ∨
          (n = .gensetCommand .cooldown none 0 ∧ (s.gs.state = .warming ∨ s.gs.state = .online)))) := by
  have dropped : ∀ {n}, n ∈ (s.resetUnwanted.port p).queue →
      n = .contractDropped s.cu.activeNumber .drivelineReset ∧ (s.port p).state ≠ .down := by
    intro n before
    rw [State.port_congr s.resetUnwanted_ports] at before
    rcases State.mem_notify_cases before with old | ⟨rfl, -, state⟩
    · rw [State.emptyPorts_port] at old
      cases old
    · exact ⟨rfl, by rwa [State.emptyPorts_state] at state⟩
  have gs : s.resetUnwanted.gs.state = s.gs.state := by rw [State.resetUnwanted_gs]
  rw [State.drivelineReset_eq] at waits
  rcases State.halted_ports s.resetUnwanted_rests with same | ⟨c, queued, command⟩
  · rw [State.port_congr same] at waits
    exact .inl (dropped waits)
  · rw [State.port_congr queued] at waits
    rcases State.mem_submit_cases waits with before | ⟨rfl, rfl, takes⟩
    · exact .inl (dropped before)
    · refine .inr ⟨rfl, ?_, ?_⟩
      · rw [← State.resetUnwanted_state]
        exact takes.resolve_right fun k => nomatch k.2
      · rw [gs] at command
        exact command.imp (fun ⟨e, state⟩ => ⟨by rw [e], state⟩) fun ⟨e, state⟩ => ⟨by rw [e], state⟩

theorem State.drivelineReset_signals (s : State) {c : Instr} (h : c = .blendImmediateRun ∨ c = .modeDerivation) :
    c ∈ s.drivelineReset.signals := by
  rw [State.drivelineReset_eq, State.halted_signals s.resetUnwanted_rests]
  exact List.mem_append_left _ (State.mem_drop_signals (s := s.emptyPorts) (.inr (.inr h)))

theorem State.resetUnwanted_cooldownMs (s : State) : s.resetUnwanted.cooldownMs = s.cooldownMs := by
  have dropped := (within_drop s.emptyPorts .drivelineReset).1
  have emptied := (within_emptyPorts s).1
  have settings : s.resetUnwanted.settings = s.settings := (dropped .settings (by decide)).trans (emptied .settings (by decide))
  have quiet : s.resetUnwanted.quiet = s.quiet := (dropped .quiet (by decide)).trans (emptied .quiet (by decide))
  unfold State.cooldownMs
  rw [settings, quiet]

section
variable {s : State}

/-- The reset at a cranking engine (R82). -/
theorem State.drivelineReset_cranking (state : s.gs.state = .cranking) :
    s.drivelineReset.gs = { s.gs with wantedCopy := false, crank := .stopped, state := .stopped } ∧
      ((s.port .genset).state = .up → .gensetCommand .stop none 0 ∈ (s.drivelineReset.port .genset).queue) := by
  rw [State.drivelineReset_eq, State.halted_cranking s.resetUnwanted_rests (by rw [State.resetUnwanted_gs]; exact state),
    State.resetUnwanted_gs]
  exact ⟨rfl, fun up => mem_command_genset (s := s.resetUnwanted) .stop ((State.resetUnwanted_state s .genset).trans up)⟩

/-- The reset at an engine that warms or runs (R82). -/
theorem State.drivelineReset_running (state : s.gs.state = .warming ∨ s.gs.state = .online) :
    s.drivelineReset.gs = { s.gs with
        wantedCopy := false, warm := .stopped, idleOff := .stopped, state := .cooldown, cooldown := .running s.cooldownMs } ∧
      ((s.port .genset).state = .up → .gensetCommand .cooldown none 0 ∈ (s.drivelineReset.port .genset).queue) := by
  rw [State.drivelineReset_eq, State.halted_running s.resetUnwanted_rests (by rw [State.resetUnwanted_gs]; exact state),
    State.resetUnwanted_gs, State.resetUnwanted_cooldownMs]
  exact ⟨rfl, fun up => mem_command_genset (s := s.resetUnwanted) .cooldown ((State.resetUnwanted_state s .genset).trans up)⟩

/-- The reset at any other engine touches the wanted copy alone (R82). -/
theorem State.drivelineReset_still (crank : s.gs.state ≠ .cranking) (warm : s.gs.state ≠ .warming) (online : s.gs.state ≠ .online) :
    s.drivelineReset.gs = { s.gs with wantedCopy := false } := by
  have gs : s.resetUnwanted.gs.state = s.gs.state := by rw [State.resetUnwanted_gs]
  rw [State.drivelineReset_eq, State.halted_still (by rwa [gs]) (by rwa [gs]) (by rwa [gs]), State.resetUnwanted_gs]

/-- What the reset keeps of the sequencer whatever its state. -/
theorem State.drivelineReset_keeps (s : State) :
    s.drivelineReset.gs.wantedCopy = false ∧ s.drivelineReset.gs.stopCause = s.gs.stopCause ∧
      s.drivelineReset.gs.attempts = s.gs.attempts ∧ s.drivelineReset.gs.activity = s.gs.activity ∧
      s.drivelineReset.gs.lockoutCode = s.gs.lockoutCode := by
  rcases s.gs.state.halts_cases with state | state | ⟨crank, warm, online⟩
  · obtain ⟨gs, -⟩ := State.drivelineReset_cranking state
    rw [gs]
    exact ⟨rfl, rfl, rfl, rfl, rfl⟩
  · obtain ⟨gs, -⟩ := State.drivelineReset_running state
    rw [gs]
    exact ⟨rfl, rfl, rfl, rfl, rfl⟩
  · rw [State.drivelineReset_still crank warm online]
    exact ⟨rfl, rfl, rfl, rfl, rfl⟩

end

/-! ### The completion (R37, R97) -/

/-- The reset with the driveline mode derived, before the gate is tested. -/
def State.resetDerived (s : State) : State := s.drivelineReset.deriveMode

theorem exec_drivelineReset (s : State) :
    exec .drivelineReset s = .next (s.resetDerived.testGate.serviceDone .drivelineReset 0x69) := rfl

theorem State.resetDerived_within (s : State) : Within [.aux] s.drivelineReset s.resetDerived := (within_deriveMode s.drivelineReset).1

/-- The reset's part of the aux outputs: the mode and the lines through SAFE (R97). -/
theorem State.resetDerived_aux (s : State) :
    s.resetDerived.aux.mode = .safe ∧ s.resetDerived.aux.allowances = s.aux.allowances ∧
      (s.aux.mode = .safe → s.resetDerived.aux = s.aux) ∧
      (s.aux.mode ≠ .safe → s.drivelineReset.redriven s.resetDerived) := by
  have aux : s.drivelineReset.aux = s.aux := (within_drivelineReset s).1 .aux (by decide)
  have safe : s.drivelineReset.cu.drivelineMode = .safe := by
    obtain ⟨shut, -, -⟩ := drivelineMode_cases s.drivelineReset.cu
    refine shut ?_
    rw [State.drivelineReset_cu]
    nofun
  obtain ⟨mode, allowances, stays, moves⟩ := deriveMode_derived s.drivelineReset
  rw [safe, aux] at stays moves
  rw [safe] at mode
  rw [aux] at allowances
  refine ⟨mode, allowances, fun already => ?_, fun other => moves fun k => other k.symm⟩
  rw [State.resetDerived, stays already.symm, aux]

theorem State.resetDerived_mayOpen (s : State) :
    s.resetDerived.mayOpen = true ↔ s.key = true ∧ (s.port .traction).state = .up ∧ (s.port .pack).state = .up ∧
      s.view.traction ≠ none ∧ s.view.pack ≠ none ∧ s.view.storage ≠ none := by
  have derived := s.resetDerived_within
  have key : s.resetDerived.key = s.key := (derived .key (by decide)).trans ((within_drivelineReset s).1 .key (by decide))
  have states : ∀ p, (s.resetDerived.port p).state = (s.port p).state := fun p => by
    rw [State.port_congr (derived .ports (by decide)), s.drivelineReset_queuesOnly.state, State.emptyPorts_state]
  have view : s.resetDerived.view = { s.view with reference := none }.clearExclusions :=
    (derived .view (by decide)).trans s.drivelineReset_view
  have storage : clearExclusions s.view.storage ≠ none ↔ s.view.storage ≠ none := by
    unfold clearExclusions
    cases s.view.storage <;> simp
  rw [mayOpen_iff, key, states, states, view, and_assoc]
  exact and_congr_right fun _ => and_congr_right fun _ => and_congr_right fun _ => and_congr_right fun _ =>
    and_congr_right fun _ => storage

theorem State.resetDerived_tried (s : State) : s.resetDerived.gateTried s.resetDerived.testGate := by
  have cu : s.resetDerived.cu = { s.cu.dropped .drivelineReset with gensetWanted := false } :=
    (s.resetDerived_within .cu (by decide)).trans s.drivelineReset_cu
  exact State.testGate_tried (by rw [cu]; rfl) (by rw [cu]; rfl) (by rw [cu]; rfl)

/-- Lines driven in one state are driven in another with the same outputs and settings. -/
theorem State.redriven_congr {s s' t t' : State} (h : s.redriven t) (before : s'.aux = s.aux) (after : t'.aux = t.aux)
    (settings : t'.settings = t.settings) : s'.redriven t' := by
  unfold State.redriven State.driven at *
  rwa [before, after, settings]

/-- Settles O17: the reset block by block, then the test of the gate. -/
theorem drivelineResetAtEveryBlock : Obligations.DrivelineResetAtEveryBlock := by
  intro s _
  obtain ⟨u, hu⟩ : ∃ u, u = s.resetDerived.testGate := ⟨_, rfl⟩
  have tried := hu ▸ s.resetDerived_tried
  have tested : Within contractPieces s.resetDerived u := hu ▸ (within_testGate s.resetDerived).1
  have derived := s.resetDerived_within
  have reset := (within_drivelineReset s).1
  have ran : exec .drivelineReset s = .next (u.serviceDone .drivelineReset 0x69) := hu ▸ exec_drivelineReset s
  have svc : u.svc = s.svc := (tested .svc (by decide)).trans ((derived .svc (by decide)).trans (reset .svc (by decide)))
  have gs : u.gs = s.drivelineReset.gs := (tested .gs (by decide)).trans (derived .gs (by decide))
  have aux : u.aux = s.resetDerived.aux := tested .aux (by decide)
  have cu : s.resetDerived.cu = { s.cu.dropped .drivelineReset with gensetWanted := false } :=
    (derived .cu (by decide)).trans s.drivelineReset_cu
  have view : s.resetDerived.view = { s.view with reference := none }.clearExclusions :=
    (derived .view (by decide)).trans s.drivelineReset_view
  have seen : u.view = { s.view.clearExclusions with reference := u.view.reference } := by
    conv_lhs => rw [tried.view, view]
    rfl
  have ports : ∀ p, s.resetDerived.port p = s.drivelineReset.port p := State.port_congr (derived .ports (by decide))
  have raised : ∀ c, c = .blendImmediateRun ∨ c = .modeDerivation → c ∈ u.signals := fun c h =>
    tried.signals c ((derived .signals (by decide)).symm ▸ s.drivelineReset_signals h)
  have commanded : ∀ c, .gensetCommand c none 0 ∈ (s.drivelineReset.port .genset).queue →
      .gensetCommand c none 0 ∈ (u.port .genset).queue := fun c waits => tried.waits .genset _ nofun (by rwa [ports])
  obtain ⟨active, lastDrop, lastDecline, need⟩ := tried.record
  obtain ⟨mode, allowances, already, moves⟩ := s.resetDerived_aux
  obtain ⟨unwanted, stopCause, attempts, activity, lockout⟩ := s.drivelineReset_keeps
  rw [cu] at lastDrop lastDecline need
  rw [← gs] at unwanted stopCause attempts activity lockout
  refine ⟨_, ran, State.serviceDone_replies svc _ _, active, lastDrop, lastDecline, need, tried.opens.trans s.resetDerived_mayOpen,
    fun closed => ?_, fun p n waits => ?_, ?_, ?_, fun safe => ?_, fun other => ?_, raised _ (.inr rfl), fun l list => ?_, ?_, ?_, ?_, ?_,
    unwanted, stopCause, attempts, activity, lockout, fun state => ?_, fun state => ?_, fun crank warm online => ?_, ?_,
    raised _ (.inl rfl), fun p => ?_⟩
  · have same := tried.stays closed
    show u.cu.gate = _ ∧ u.cu.proposal = _ ∧ u.cu.gensetWanted = _ ∧ u.cu.counter = _ ∧ u.view.reference = _ ∧ _
    rw [same, cu, view]
    refine ⟨rfl, rfl, rfl, rfl, rfl, fun p state => ?_⟩
    show _ ∈ (s.resetDerived.port p).queue
    rw [ports]
    exact s.drivelineReset_told state
  · rcases tried.offers p n waits with before | offer
    · rw [ports] at before
      exact (s.drivelineReset_notices before).imp id .inr
    · exact .inr (.inl offer)
  · exact (congrArg AuxUnit.mode aux).trans mode
  · exact (congrArg AuxUnit.allowances aux).trans allowances
  · exact aux.trans (already safe)
  · exact State.redriven_congr (moves other) (reset .aux (by decide)).symm aux (tested .settings (by decide))
  · replace list : u.view.storage = some l ∨ u.view.gensetList = some l := list
    rw [seen] at list
    rcases list with list | list <;> exact clearExclusions_excluded list
  · exact (congrArg View.traction seen :)
  · exact (congrArg View.pack seen :)
  · exact (congrArg View.genset seen :)
  · exact (congrArg View.brake seen :)
  · obtain ⟨left, stop⟩ := State.drivelineReset_cranking state
    rw [← gs] at left
    exact ⟨congrArg Sequencer.state left, congrArg Sequencer.crank left, fun up => commanded .stop (stop up)⟩
  · obtain ⟨left, cools⟩ := State.drivelineReset_running state
    rw [← gs] at left
    exact ⟨congrArg Sequencer.state left, congrArg Sequencer.warm left, congrArg Sequencer.idleOff left,
      congrArg Sequencer.cooldown left, fun up => commanded .cooldown (cools up)⟩
  · exact gs.trans (State.drivelineReset_still crank warm online)
  · exact (tested .blend (by decide)).trans ((derived .blend (by decide)).trans s.drivelineReset_blend)
  · exact State.emptyPorts_kept (u := u)
      (s.drivelineReset_queuesOnly.trans ((State.queuesOnly_of_ports (derived .ports (by decide))).trans tried.queues)) p

end Sys2Proof.Machine

/-! ## The end of the power-on load at every block (R93, R99, R121, R137, R142, R159, R167) -/

namespace Sys2Proof.Machine

/-! ### Ports told of warnings alone -/

/-- Only ports that are UP have changed, and those in their queues alone. -/
def State.upToldOnly (s t : State) : Prop := s.queuesOnly t ∧ ∀ p, (s.port p).state ≠ .up → t.port p = s.port p

theorem State.upToldOnly_of_ports {s t : State} (h : t.ports = s.ports) : s.upToldOnly t :=
  ⟨State.queuesOnly_of_ports h, fun p _ => State.port_congr h p⟩

theorem State.upToldOnly.trans {s t u : State} (h : s.upToldOnly t) (g : t.upToldOnly u) : s.upToldOnly u := by
  obtain ⟨queues, others⟩ := h
  obtain ⟨queues', others'⟩ := g
  exact ⟨queues.trans queues', fun p down => (others' p (by rwa [queues.state])).trans (others p down)⟩

theorem PartnerPort.told_eq (pp : PartnerPort) (mask : BitVec 5) (p : Port) (n : Notice) :
    pp.told mask p n = { pp with queue := (pp.told mask p n).queue, exchange := (pp.told mask p n).exchange } ∧
      (pp.state ≠ .up → pp.told mask p n = pp) := by
  unfold PartnerPort.told
  split
  · next up =>
    rw [Bool.and_eq_true, beq_iff_eq] at up
    exact ⟨PartnerPort.submit_eq _ _, fun down => absurd up.2 down⟩
  · exact ⟨rfl, fun _ => rfl⟩

theorem State.deliver_upToldOnly (s : State) (code : Nat) : s.upToldOnly (s.deliver code) := by
  have told := fun p => PartnerPort.told_eq (s.port p) (s.settings.masks.getD (code - 1) 0#5) p (s.warningNotice code p)
  refine ⟨fun p => ?_, fun p down => ?_⟩
  · rw [deliver_port]
    split
    · rfl
    · exact (told p).1
  · rw [deliver_port]
    split
    · rfl
    · exact (told p).2 down

theorem State.setLevel_upToldOnly (s : State) (l : OwnerLevel) :
    s.upToldOnly (s.setLevel (OwnerLevel.condition s.settings l).1 (OwnerLevel.condition s.settings l).2) := by
  rw [condition_place]
  generalize (OwnerLevel.condition s.settings l).2 = level
  obtain ⟨stays, moves⟩ := setLevel_cases s (levelPlace l) level
  by_cases same : s.warn.levels.getLsbD (levelPlace l) = level
  · rw [stays same]
    exact State.upToldOnly_of_ports rfl
  obtain ⟨latches, keeps⟩ := moves same
  by_cases hits : (s.settings.edges.getD (levelPlace l) .rise).hits level = true ∧ s.warn.latched.getLsbD (levelPlace l) = false
  · rw [latches hits.1 hits.2]
    exact State.deliver_upToldOnly ((s.withLevel (levelPlace l) level).withLatch (levelPlace l)) _
  · rw [keeps (by simpa using not_and_or.1 hits)]
    exact State.upToldOnly_of_ports rfl

theorem State.takeLevels_cons (s : State) (l : OwnerLevel) (ls : List OwnerLevel) :
    s.takeLevels (l :: ls) =
      (s.setLevel (OwnerLevel.condition s.settings l).1 (OwnerLevel.condition s.settings l).2).takeLevels ls := rfl

theorem State.takeLevels_upToldOnly (s : State) (ls : List OwnerLevel) : s.upToldOnly (s.takeLevels ls) := by
  induction ls generalizing s with
  | nil => exact State.upToldOnly_of_ports rfl
  | cons l ls ih => exact (s.setLevel_upToldOnly l).trans (ih _)

/-! ### Several levels of different conditions taken (R140, R142) -/

/-- One level taken, place by place: its place moves, and latches where it moves by its edge selection. -/
theorem setLevel_places (s : State) (place : Nat) (level : Bool) {j : Nat} (inside : j < 24) :
    ((s.setLevel (place + 1) level).warn.levels.getLsbD j = true ↔
      if j = place then level = true else s.warn.levels.getLsbD j = true) ∧
    ((s.setLevel (place + 1) level).warn.latched.getLsbD j = true ↔ s.warn.latched.getLsbD j = true ∨
      (j = place ∧ s.warn.levels.getLsbD place ≠ level ∧ (s.settings.edges.getD place .rise).hits level = true)) := by
  obtain ⟨stays, moves⟩ := setLevel_cases s place level
  by_cases same : s.warn.levels.getLsbD place = level
  · rw [stays same]
    refine ⟨?_, ⟨.inl, fun h => h.resolve_right fun k => k.2.1 same⟩⟩
    split
    · next here => rw [here, same]
    · rfl
  obtain ⟨latches, keeps⟩ := moves same
  by_cases hits : (s.settings.edges.getD place .rise).hits level = true ∧ s.warn.latched.getLsbD place = false
  · obtain ⟨edge, unlatched⟩ := hits
    obtain ⟨levels, latched⟩ := deliver_latched_warn s place level
    rw [latches edge unlatched, levels, latched, setBit_getLsbD _ _ _ inside]
    refine ⟨withLevel_getLsbD s place level inside, ?_⟩
    split
    · next here => exact ⟨fun _ => .inr ⟨here, same, edge⟩, fun _ => rfl⟩
    · next away => exact ⟨.inl, fun h => h.resolve_right fun k => away k.1⟩
  · rw [keeps (by simpa using not_and_or.1 hits)]
    refine ⟨withLevel_getLsbD s place level inside, .inl, fun h => h.elim id fun ⟨here, _, edge⟩ => ?_⟩
    rw [here, ← Bool.not_eq_false]
    exact fun unlatched => hits ⟨edge, unlatched⟩

/-- The edge selection of a place matches its level. -/
def edgeMatches (e : Edge) (level : Bool) : Prop :=
  match e with
  | .rise => level = true
  | .fall => level = false
  | .both => True

theorem edgeMatches_iff (e : Edge) (level : Bool) : e.hits level = true ↔ edgeMatches e level := by
  cases e <;> simp [Edge.hits, edgeMatches]

/-- What levels of different conditions leave of the Warning Unit's table, place by place. -/
structure State.placesTaken (s t : State) (ls : List OwnerLevel) : Prop where
  settings : t.settings = s.settings
  taken : ∀ l ∈ ls, levelPlace l < 24 → (t.warn.levels.getLsbD (levelPlace l) = true ↔ levelHolds s.settings l)
  other : ∀ j : Nat, j < 24 → j ∉ ls.map levelPlace → t.warn.levels.getLsbD j = s.warn.levels.getLsbD j
  latched : ∀ j : Nat, j < 24 → (t.warn.latched.getLsbD j = true ↔ s.warn.latched.getLsbD j = true ∨
    (t.warn.levels.getLsbD j ≠ s.warn.levels.getLsbD j ∧ edgeMatches (s.settings.edges.getD j .rise) (t.warn.levels.getLsbD j)))

theorem State.takeLevels_places {ls : List OwnerLevel} (distinct : (ls.map levelPlace).Nodup) (s : State) :
    s.placesTaken (s.takeLevels ls) ls := by
  induction ls generalizing s with
  | nil => exact ⟨rfl, fun _ h => (nomatch h), fun _ _ _ => rfl, fun _ _ => ⟨.inl, fun h => h.elim id fun k => absurd rfl k.1⟩⟩
  | cons l ls ih =>
    obtain ⟨fresh, distinct⟩ := List.nodup_cons.1 distinct
    have holds := condition_holds s.settings l
    have code := condition_place s.settings l
    rw [State.takeLevels_cons, code]
    generalize (OwnerLevel.condition s.settings l).2 = level at holds
    have step := fun (j : Nat) (inside : j < 24) => setLevel_places s (levelPlace l) level inside
    have frame : (s.setLevel (levelPlace l + 1) level).settings = s.settings := (within_setLevel s _ level).1 .settings (by decide)
    obtain ⟨m, hm⟩ : ∃ m, m = s.setLevel (levelPlace l + 1) level := ⟨_, rfl⟩
    rw [← hm] at step frame ⊢
    obtain ⟨settings, taken, other, latched⟩ := ih distinct m
    rw [frame] at settings taken latched
    have moved : ∀ j : Nat, j < 24 → j ≠ levelPlace l → m.warn.levels.getLsbD j = s.warn.levels.getLsbD j := fun j inside away => by
      have level := (step j inside).1
      rw [if_neg away] at level
      exact Bool.eq_iff_iff.2 level
    refine ⟨settings, fun k mem inside => ?_, fun j inside absent => ?_, fun j inside => ?_⟩
    · rcases List.mem_cons.1 mem with rfl | later
      · rw [other _ inside fresh, (step _ inside).1, if_pos rfl, holds]
      · exact taken k later inside
    · obtain ⟨away, rest⟩ := not_or.1 (mt List.mem_cons.2 absent)
      rw [other j inside rest, moved j inside away]
    · rw [latched j inside, (step j inside).2]
      by_cases here : j = levelPlace l
      · subst here
        have after := other _ inside fresh
        have now : m.warn.levels.getLsbD (levelPlace l) = level := Bool.eq_iff_iff.2 (by rw [(step _ inside).1, if_pos rfl])
        rw [after, now, edgeMatches_iff]
        exact ⟨fun h => h.elim (fun k => k.imp id fun k => ⟨fun e => k.2.1 e.symm, k.2.2⟩) fun k => absurd rfl k.1,
          fun h => .inl (h.imp id fun k => ⟨rfl, fun e => k.1 e.symm, k.2⟩)⟩
      · rw [moved j inside here]
        exact ⟨fun h => h.elim (fun k => k.elim .inl fun k => absurd k.1 here) .inr, fun h => h.elim (fun k => .inl (.inl k)) .inr⟩

/-! ### Every condition as it stands (R142) -/

/-- Every level that is its owner's is among those of the first evaluation. -/
theorem mem_allLevels {s : State} {l : OwnerLevel} (h : s.stands l) : l ∈ s.allLevels := by
  have level : ∀ {a b : Bool}, (a = true ↔ b = true) → a = b := Bool.eq_iff_iff.2
  cases l with
  | padGrade w g => cases h; simp [State.allLevels, Wheel.mem_all]
  | fade w on => cases h; simp [State.allLevels, Wheel.mem_all]
  | batteryGrade g => cases h; simp [State.allLevels]
  | engineGrade g => cases h; simp [State.allLevels]
  | gensetLockout on =>
    have e : on = (s.gs.state == .lockedOut) := level (h.trans beq_iff_eq.symm)
    simp [State.allLevels, e]
  | mismatch on =>
    have e : on = s.cu.inMismatch := level (h.trans (by
      unfold ContractUnit.inMismatch
      cases s.cu.active <;> simp [Option.isSome_iff_ne_none]))
    simp [State.allLevels, e]
  | safeState on =>
    have e : on = (s.cu.gate == .safe) := level (h.trans beq_iff_eq.symm)
    simp [State.allLevels, e]
  | portLost p on =>
    have e : on = ((s.port p).state == .lost) := level (h.trans beq_iff_eq.symm)
    simp [State.allLevels, e, mem_allPorts]
  | settingsBad on => cases h; simp [State.allLevels]
  | wearBad on => cases h; simp [State.allLevels]

/-- The levels of the first evaluation are those of all 23 places, each once. -/
theorem allLevels_places (s : State) : s.allLevels.map levelPlace = List.range 23 := rfl

theorem levelPlace_lt (l : OwnerLevel) : levelPlace l < 24 := by
  have wheel : ∀ w : Wheel, w.index < 6 := fun w => by cases w <;> decide
  have port : ∀ p : Port, p.index < 4 := fun p => by cases p <;> decide
  cases l with
  | padGrade w g => exact (wheel w).trans (by decide)
  | fade w on => exact Nat.add_lt_of_lt_sub' ((wheel w).trans (by decide))
  | portLost p on => exact Nat.add_lt_of_lt_sub' ((port p).trans (by decide))
  | batteryGrade g => exact (by decide : 12 < 24)
  | engineGrade g => exact (by decide : 13 < 24)
  | gensetLockout on => exact (by decide : 14 < 24)
  | mismatch on => exact (by decide : 15 < 24)
  | safeState on => exact (by decide : 16 < 24)
  | settingsBad on => exact (by decide : 21 < 24)
  | wearBad on => exact (by decide : 22 < 24)

theorem firstEvaluation_within (s : State) : Within [.warn, .ports] s s.firstEvaluation :=
  ((within_takeLevels s s.allLevels).trans ((within_refreshWarnings _).mono (by decide))).1

theorem firstEvaluation_places (s : State) : s.placesTaken s.firstEvaluation s.allLevels := by
  obtain ⟨settings, taken, other, latched⟩ := State.takeLevels_places (ls := s.allLevels) (by rw [allLevels_places]; exact List.nodup_range) s
  exact ⟨settings, taken, other, latched⟩

theorem firstEvaluation_upToldOnly (s : State) : s.upToldOnly s.firstEvaluation :=
  (s.takeLevels_upToldOnly s.allLevels).trans (State.upToldOnly_of_ports rfl)

/-- After the first evaluation each level that stands is in the table. -/
theorem firstEvaluation_stands {s : State} {l : OwnerLevel} (h : s.firstEvaluation.stands l) :
    s.firstEvaluation.warn.levels.getLsbD (levelPlace l) = true ↔ levelHolds s.firstEvaluation.settings l := by
  have frame := firstEvaluation_within s
  obtain ⟨settings, taken, -, -⟩ := firstEvaluation_places s
  have stood : s.stands l := by
    have wear : s.firstEvaluation.wear = s.wear := frame .wear (by decide)
    have gs : s.firstEvaluation.gs = s.gs := frame .gs (by decide)
    have cu : s.firstEvaluation.cu = s.cu := frame .cu (by decide)
    have store : s.firstEvaluation.store = s.store := frame .store (by decide)
    have states := (firstEvaluation_upToldOnly s).1.state
    cases l <;> simp only [State.stands, wear, gs, cu, store, states] at h ⊢ <;> exact h
  rw [taken l (mem_allLevels stood) (levelPlace_lt l), settings]

/-! ### What the images give (R121, R137, R167) -/

theorem Store.loadSettings_good {t : Store} (good : settingsImageGood t.settingsImage = true) :
    t.loadSettings = (clampSettings t.settingsImage.contents, false) := if_pos good

theorem Store.loadSettings_bad {t : Store} (bad : settingsImageGood t.settingsImage = false) :
    t.loadSettings = (Settings.default, true) := if_neg (by simp [bad])

theorem Store.loadWear_good {t : Store} (good : wearImageGood t.wearImage = true) :
    t.loadWear = (clampWear t.wearImage.contents, false) := if_pos good

theorem Store.loadWear_bad {t : Store} (bad : wearImageGood t.wearImage = false) :
    t.loadWear = (WearContents.default, true) := if_neg (by simp [bad])

theorem Store.loadSettings_mark (t : Store) : t.loadSettings.2 = !settingsImageGood t.settingsImage := by
  cases good : settingsImageGood t.settingsImage with
  | false => rw [Store.loadSettings_bad good]; rfl
  | true => rw [Store.loadSettings_good good]; rfl

theorem Store.loadWear_mark (t : Store) : t.loadWear.2 = !wearImageGood t.wearImage := by
  cases good : wearImageGood t.wearImage with
  | false => rw [Store.loadWear_bad good]; rfl
  | true => rw [Store.loadWear_good good]; rfl

theorem Settings.default_atDefaults : Settings.default.atDefaults where
  reports := by decide
  selection := by decide
  genset := by decide
  aux := by decide
  blend := by decide
  wear := by decide
  warnings := by decide
  edges := by decide
  masks := by decide
  ports := by decide

theorem loadedWheels_get (x : Settings) (c : WearContents) (w : Wheel) :
    (loadedWheels x c).get w =
      ({ theta := startTheta x, heat := 0, account := c.padAccount.get w, residue := c.padResidue.get w, life := c.padLife.get w,
         grade := 0, fade := false : WheelEnd }).regrade.refade x.fadeThreshold := sixOf_get _ w

/-! ### The load's end (R93, R99, R159, R167) -/

/-- The load's end up to the first evaluation. -/
def State.loadedUnits (s : State) : State := s.loadImages.startUnits.raise (.fadeCopyUpdate s.loadImages.wear.anyFade)

theorem State.loadedUnits_driven (s : State) :
    s.loadedUnits.aux.lines = .driven (lineLevels (s.loadedUnits.settings.vectors.get s.loadedUnits.aux.mode) s.loadedUnits.settings.polarity) :=
  rfl

theorem within_loadedUnits (s : State) :
    Within [.loaded, .settings, .aux, .blend, .wear, .warn, .svc, .store, .ports, .signals] s s.loadedUnits := by
  intro p h
  cases p <;> first | rfl | exact absurd (by decide) h

theorem exec_settingsLoadEnd {s : State} (fresh : s.loaded = false) :
    exec .settingsLoadEnd s =
      .next (if s.loadedUnits.firstEvaluation.key then s.loadedUnits.firstEvaluation.keyTaken else s.loadedUnits.firstEvaluation) :=
  if_neg (by simp [fresh])

/-- The settings as the image gives them (R167). -/
theorem State.loadedUnits_settings (s : State) :
    (settingsImageGood s.store.settingsImage = true → s.loadedUnits.settings.clampedFrom s.store.settingsImage.contents) ∧
      (settingsImageGood s.store.settingsImage = false → s.loadedUnits.settings.atDefaults) := by
  have settings : s.loadedUnits.settings = s.store.loadSettings.1 := rfl
  rw [settings]
  refine ⟨fun good => ?_, fun bad => ?_⟩
  · rw [Store.loadSettings_good good]
    exact Settings.clampedFrom_iff.2 rfl
  · rw [Store.loadSettings_bad bad]
    exact Settings.default_atDefaults

/-- The wheel ends as the image gives them (R120, R121). -/
theorem State.loadedUnits_wheel (s : State) (w : Wheel) :
    ((s.loadedUnits.wear.wheels.get w).theta = (16 * (s.loadedUnits.settings.ambient + s.loadedUnits.settings.restartMargin)).toNat ∧
      (s.loadedUnits.wear.wheels.get w).heat = 0 ∧ (s.loadedUnits.wear.wheels.get w).graded ∧
      (s.loadedUnits.wear.wheels.get w).flagged s.loadedUnits.settings) ∧
    (wearImageGood s.store.wearImage = false →
      (s.loadedUnits.wear.wheels.get w).account = 0 ∧ (s.loadedUnits.wear.wheels.get w).residue = 0 ∧
        (s.loadedUnits.wear.wheels.get w).life = 20000) ∧
    (wearImageGood s.store.wearImage = true →
      (s.loadedUnits.wear.wheels.get w).account = min 4294967295 (s.store.wearImage.contents.padAccount.get w) ∧
        (s.loadedUnits.wear.wheels.get w).residue = min 999 (s.store.wearImage.contents.padResidue.get w) ∧
        (s.loadedUnits.wear.wheels.get w).life = max 1 (min 65535 (s.store.wearImage.contents.padLife.get w))) := by
  have settings : s.loadedUnits.settings = s.store.loadSettings.1 := rfl
  have wheels : s.loadedUnits.wear.wheels = loadedWheels s.store.loadSettings.1 s.store.loadWear.1 := rfl
  rw [settings, wheels, loadedWheels_get]
  refine ⟨⟨rfl, rfl, rfl, WheelEnd.refade_flagged _ _⟩, fun bad => ?_, fun good => ?_⟩
  · rw [Store.loadWear_bad bad]
    cases w <;> exact ⟨rfl, rfl, rfl⟩
  · rw [Store.loadWear_good good]
    simp only [WheelEnd.refade, WheelEnd.regrade, clampWear, Six.get_map, clampNat_zero]
    exact ⟨trivial, trivial, clampNat_eq (by decide) _⟩

/-- The battery and engine records as the image gives them (R130, R133, R137). -/
theorem State.loadedUnits_records (s : State) :
    s.loadedUnits.wear.battery.figured ∧ s.loadedUnits.wear.engine.figured ∧
    (wearImageGood s.store.wearImage = false →
      s.loadedUnits.wear.battery.account = 0 ∧ s.loadedUnits.wear.battery.residue = 0 ∧ s.loadedUnits.wear.battery.life = 2000000 ∧
      s.loadedUnits.wear.engine.account = 0 ∧ s.loadedUnits.wear.engine.life = 30000) ∧
    (wearImageGood s.store.wearImage = true →
      s.loadedUnits.wear.battery.account = min 4294967295 s.store.wearImage.contents.batteryAccount ∧
      s.loadedUnits.wear.battery.residue = min 999999 s.store.wearImage.contents.batteryResidue ∧
      s.loadedUnits.wear.battery.life = max 1 (min 100000000 s.store.wearImage.contents.batteryLife) ∧
      s.loadedUnits.wear.engine.account = min 65535 s.store.wearImage.contents.engineAccount ∧
      s.loadedUnits.wear.engine.life = max 1 (min 65535 s.store.wearImage.contents.engineLife)) := by
  have wear : s.loadedUnits.wear = loadedWear s.store.loadSettings.1 s.store.loadWear.1 := rfl
  rw [wear]
  refine ⟨batteryRecord_figured _ _ _, engineRecord_figured _ _, fun bad => ?_, fun good => ?_⟩
  · rw [Store.loadWear_bad bad]
    exact ⟨rfl, rfl, rfl, rfl, rfl⟩
  · rw [Store.loadWear_good good]
    exact ⟨clampNat_zero _ _, clampNat_zero _ _, clampNat_eq (by decide) _, clampNat_zero _ _, clampNat_eq (by decide) _⟩

theorem State.loadedUnits_store (s : State) :
    s.loadedUnits.store = { s.store with
      settingsBad := !settingsImageGood s.store.settingsImage, wearBad := !wearImageGood s.store.wearImage } := by
  rw [← Store.loadSettings_mark, ← Store.loadWear_mark]
  rfl

/-- Settles O14: the blocks as the load starts them, the first evaluation, then what key-on does. -/
theorem loadEndSetsEveryBlock : Obligations.LoadEndSetsEveryBlock := by
  intro s fresh
  obtain ⟨u, hu⟩ : ∃ u, u = s.loadedUnits.firstEvaluation := ⟨_, rfl⟩
  have ran := exec_settingsLoadEnd fresh
  have frame := firstEvaluation_within s.loadedUnits
  have places := firstEvaluation_places s.loadedUnits
  have told := firstEvaluation_upToldOnly s.loadedUnits
  have stands := @firstEvaluation_stands s.loadedUnits
  have summarised : s.loadedUnits.firstEvaluation.summarised := refreshWarnings_summarised _
  rw [← hu] at ran frame places told stands summarised
  have settings : u.settings = s.loadedUnits.settings := frame .settings (by decide)
  have wear : u.wear = s.loadedUnits.wear := frame .wear (by decide)
  have aux : u.aux = s.loadedUnits.aux := frame .aux (by decide)
  have key : u.key = s.key := frame .key (by decide)
  obtain ⟨good, bad⟩ := s.loadedUnits_settings
  obtain ⟨battery, engine, badWear, goodWear⟩ := s.loadedUnits_records
  have lines : u.aux.lines = .driven (lineLevels (u.settings.vectors.get u.aux.mode) u.settings.polarity) := by
    rw [aux, settings]
    exact s.loadedUnits_driven
  refine ⟨_, u, ran, frame .loaded (by decide), (within_loadedUnits s).trans (frame.mono (by decide)), ?_, ?_, ?_, ⟨_, lines⟩,
    ⟨_, lines, fun i inside => lineLevels_getLsbD _ _ inside⟩, ?_, ?_, ?_, ?_, ?_, ?_, fun w => ?_, ?_, ?_, ?_, ?_, ?_,
    fun l h => stands h, fun i inside => ?_, summarised, fun p down => told.2 p down, fun off => ?_, fun on => ?_⟩
  · rw [settings]
    exact good
  · rw [settings]
    exact bad
  · exact (frame .store (by decide)).trans s.loadedUnits_store
  · refine State.allowed_of ?_
    rw [aux, settings]
    rfl
  · exact (congrArg AuxUnit.mode aux :)
  · rw [settings]
    exact frame .blend (by decide)
  · exact congrArg WearUnit.cooling wear
  · rw [settings]
    exact frame .svc (by decide)
  · rw [wear]
    exact frame .signals (by decide)
  · obtain ⟨⟨theta, heat, graded, flagged⟩, bad', good'⟩ := s.loadedUnits_wheel w
    rw [wear, settings]
    exact ⟨theta, heat, graded, flagged, bad', good'⟩
  · rw [wear]
    exact anyFadeOf_iff _
  · rw [wear]
    exact battery
  · rw [wear]
    exact engine
  · rw [wear]
    exact badWear
  · rw [wear]
    exact goodWear
  · rw [settings]
    exact places.latched i (by omega)
  · exact if_neg (by rw [key, off]; nofun)
  · rw [if_pos (key.trans on)]
    exact ⟨_, State.testGate_tested _, State.evaluateStart_evaluated _⟩

end Sys2Proof.Machine
